-- ==== Sys2Proof/Word.lean ====
section
/-! DEFINITION. The word types of the part: the 8-bit character of the press line link (R124, R126). -/

namespace Sys2Proof

/-- One 8-bit character of a frame, or one byte of a body (R126, R154). -/
abbrev Byte := BitVec 8

end Sys2Proof
end

