-- ==== Sys2Proof/Syntax.lean ====
section
/-! DEFINITION. The commands of the part: one constructor for each row of spec/opcode_table.json, with the
operands that the row's event carries. A request carries the body of its frame as bytes (chapter 11). -/

namespace Sys2Proof

/-- The four lanes (Conventions: "Lanes are numbered 1 to 4"). -/
inductive LaneId where
  | one | two | three | four
  deriving DecidableEq, Repr, Inhabited

/-- The three zones of a lane, Z1 nearest the dryer entry. -/
inductive ZoneId where
  | z1 | z2 | z3
  deriving DecidableEq, Repr, Inhabited

/-- The 22 reading channels (R98). -/
inductive Channel where
  | zone (lane : LaneId) (z : ZoneId)
  | webExit (lane : LaneId)
  | chillExit (lane : LaneId)
  | analyzer
  | chillWater
  deriving DecidableEq, Repr

/-- A character as the port hears it (R124): its eight data bits, its parity bit, its stop bit, whether a character
before it was lost (an overrun), and whether the line had been idle for more than 4 character times before it (R128). -/
structure LineChar where
  data : Byte
  parity : Bool
  stop : Bool
  overrun : Bool
  afterGap : Bool
  deriving DecidableEq, Repr, Inhabited

/-- The levels of the strap pins (R123, R125): the two rate straps (bit 1 is pin 2) and the five address straps. -/
structure Straps where
  rate : BitVec 2
  address : BitVec 5
  deriving DecidableEq, Repr, Inhabited

/-- The two ways an answer meets another talker (R133): character `index` of the answer, counted from 0, reads back
as `heard`; or a character is heard in ANSWER before the first answer character has been sent. -/
inductive CollisionEvent where
  | readback (index : Nat) (heard : LineChar)
  | busyLine (heard : LineChar)
  deriving DecidableEq, Repr

/-- The commands: the rows of spec/opcode_table.json. -/
inductive Instr where
  /-- Look up a profile (R14). -/
  | plook (body : List Byte)
  /-- List profile keys (R15). -/
  | plist (body : List Byte)
  /-- Write a whole profile (R16). -/
  | pwrite (body : List Byte)
  /-- Trim a live profile (R19). -/
  | ptrim (body : List Byte)
  /-- Retire a profile (R23). -/
  | pretire (body : List Byte)
  /-- Read the peak concentration (R37). -/
  | pkrd (body : List Byte)
  /-- Thread a lane (R46). -/
  | lthrd (body : List Byte)
  /-- Unthread a lane (R57). -/
  | lunth (body : List Byte)
  /-- Set a lane's speed target (R51). -/
  | lspd (body : List Byte)
  /-- Clear a broken lane (R56). -/
  | lclr (body : List Byte)
  /-- Read a lane (R63). -/
  | lstat (body : List Byte)
  /-- Start the dryer (R86). -/
  | dstart (body : List Byte)
  /-- Stop the dryer (R91). -/
  | dstop (body : List Byte)
  /-- Read the dryer (R97). -/
  | dstat (body : List Byte)
  /-- Deliver readings (R100). -/
  | rdg (body : List Byte)
  /-- Announce a break, addressed (R115). -/
  | lbrk (body : List Byte)
  /-- Announce a break, broadcast (R116). -/
  | lbrkBroadcast (body : List Byte)
  /-- Read the link status (R135). -/
  | kstat (body : List Byte)
  /-- Master heartbeat, addressed or broadcast (R143). -/
  | beat (broadcast : Bool) (body : List Byte)
  /-- Read the attention record (R140). -/
  | atrd (body : List Byte)
  /-- Clear attention causes (R141). -/
  | atclr (body : List Byte)
  /-- Set the routine mask (R142). -/
  | atmsk (body : List Byte)
  /-- Commit the profile store (R147). -/
  | scommit (body : List Byte)
  /-- Read the calibration (R151). -/
  | crd (body : List Byte)
  /-- Write the calibration (R152). -/
  | cwr (body : List Byte)
  /-- Station reset, the request (R153). -/
  | srst (body : List Byte)
  /-- The station reset takes effect, with the straps as they are read then (R153). -/
  | stationReset (straps : Straps)
  /-- Power-on, with the straps as they are read and the break lines as they stand (R149, R111). Bit n - 1 of
  `breakLevels` is the line of lane n. -/
  | powerOn (straps : Straps) (breakLevels : BitVec 4)
  /-- An addressed good frame with a request code of no request (R131). -/
  | unknownRequest (code : Byte) (body : List Byte)
  /-- A good frame for another station (R131). -/
  | otherStationFrame (address code : Byte) (body : List Byte)
  /-- A good broadcast frame that the part does not take (R131). -/
  | broadcastDiscard (code : Byte) (body : List Byte)
  /-- Characters are heard that make a frame to be discarded (R128, R129, R130). -/
  | frameDiscard (chars : List LineChar)
  /-- Characters are heard, and then the line stays idle for more than 4 character times (R128). -/
  | shortFrame (chars : List LineChar)
  /-- Characters are heard that complete a frame, and then one more within 4 character times (R129). -/
  | overlongFrame (chars : List LineChar) (extra : LineChar)
  /-- The answer's last stop bit is sent (R132). -/
  | answerEnd
  /-- A read-back mismatch or a busy line (R133). -/
  | collision (event : CollisionEvent)
  /-- The link-free input has been low for 100 µs (R134). -/
  | linkFree
  /-- The evaluation period expires (R69). -/
  | evaluation
  /-- An encoder window of a lane completes (R61). -/
  | encoderWindow (lane : LaneId)
  /-- A flow-meter window completes (R84). -/
  | flowWindow
  /-- The purge timer reaches 600 s (R89). -/
  | purgeFailed
  /-- The cooldown timer reaches 1800 s (R92). -/
  | cooldownTimeout
  /-- A lane's residual hold ends (R55). -/
  | residualHoldExpiry (lane : LaneId)
  /-- A lane's decel grace reaches 0 (R49). -/
  | decelGraceExpiry (lane : LaneId)
  /-- A LEADING lane's lead timer reaches the band lead timeout (R80). -/
  | bandLeadTimeout (lane : LaneId)
  /-- A fresh channel's age reaches the stale age (R102). -/
  | readingStale (channel : Channel)
  /-- A break input's line is at a level (R112). -/
  | breakInputChange (lane : LaneId) (level : Bool)
  /-- A confirmation timer expires (R114). -/
  | confirmedBreak (lane : LaneId)
  /-- A 0.5 s horn cadence phase ends (R121). -/
  | cadencePhaseEnd
  /-- The heartbeat timer expires (R144). -/
  | masterSilent
  /-- A store slot write ends; its read-back agrees (`verified`) or differs (R148). -/
  | slotWriteDone (verified : Bool)
  /-- The link-free input returns high (R134). -/
  | linkFreeRelease
  /-- The port begins to drive the line (R132). -/
  | answerBegin
  /-- The supply is lost (R146). -/
  | powerLoss
  /-- A rising edge on a lane's encoder input, `gapUs` microseconds after the edge before it (R61). -/
  | encoderEdge (lane : LaneId) (gapUs : Nat)
  /-- A rising edge on the flow-meter input, `gapUs` microseconds after the edge before it (R84). -/
  | flowPulse (gapUs : Nat)
  deriving DecidableEq, Repr

end Sys2Proof
end

