-- ==== Sys2Proof/Decode.lean ====
section
/-! DEFINITION. The decoder of words. The part has no processor's decoder: no row of spec/opcode_table.json gives
bits, so no word spells a command (assumption 18). Request codes are read by Machine/Link.lean. -/

namespace Sys2Proof

/-- The command that a word spells by the table's bits: none, since the table gives no row any bits. -/
def decodeTableWord (_nbits _w : Nat) : Option Instr := none

end Sys2Proof
end

