-- ==== Sys2Proof/Machine/Records.lean ====
section
/-! DEFINITION. The records of the part as plain data: profiles, lanes, the dryer, the readings, the link port, the
attention record, the store. Machine/State.lean joins them into State. -/

namespace Sys2Proof.Machine

/-- One value for each of the four lanes. -/
structure PerLane (α : Type) where
  one : α
  two : α
  three : α
  four : α
  deriving DecidableEq, Repr, Inhabited

/-- One value for each of a lane's three zones. -/
structure PerZone (α : Type) where
  z1 : α
  z2 : α
  z3 : α
  deriving DecidableEq, Repr, Inhabited

/-! ## Job profiles -/

/-- One entry of a couple list (R2). -/
structure Couple where
  id : Nat
  coverage : Nat
  rate : Nat
  deriving DecidableEq, Repr, Inhabited

/-- One entry of a band list (R3). -/
structure Band where
  bound : Nat
  z1 : Nat
  z2 : Nat
  z3 : Nat
  webExitMin : Nat
  chillExitMax : Nat
  deriving DecidableEq, Repr, Inhabited

/-- The six fields of a profile that PWRITE carries (R1). -/
structure ProfileFields where
  key : Nat
  width : Nat
  couples : List Couple
  bands : List Band
  tolerance : Nat
  override : Option Nat
  deriving DecidableEq, Repr, Inhabited

/-- The image of a profile slot (R146): the fields and the revision. -/
structure ProfileImage extends ProfileFields where
  revision : BitVec 8
  deriving DecidableEq, Repr, Inhabited

/-- A record of the profile table (R1, R7). Its changed field is the mark of its slot index (R8). -/
structure Profile extends ProfileImage where
  retirePending : Bool
  bindCount : Nat
  slot : Nat
  deriving DecidableEq, Repr, Inhabited

/-! ## Calibration -/

/-- The 29 calibration values (R150). The heartbeat timeout is in units of 0.1 s (R161); a polarity is true for
active high. -/
structure Calibration where
  cl : Nat
  normalLimit : Nat
  monitoredLimit : Nat
  analyzerFitted : Bool
  qMax : Nat
  qMin : Nat
  qPurge : Nat
  volume : Nat
  pulsesPerM3 : Nat
  margin : Nat
  encoderPpm : PerLane Nat
  crawl : Nat
  rampStep : Nat
  residualHold : Nat
  decelGrace : Nat
  leadTimeout : Nat
  idleSetpoint : Nat
  cooldownTemp : Nat
  chillWaterMax : Nat
  staleAge : Nat
  heartbeatTenths : Nat
  activeHigh : PerLane Bool
  confirmMs : Nat
  deriving DecidableEq, Repr, Inhabited

/-- The power-on defaults (R150): the three flows have none and are held as 0. -/
def Calibration.default : Calibration :=
  { cl := 40, normalLimit := 25, monitoredLimit := 40, analyzerFitted := false, qMax := 0, qMin := 0, qPurge := 0,
    volume := 50, pulsesPerM3 := 10, margin := 20, encoderPpm := ⟨20, 20, 20, 20⟩, crawl := 30, rampStep := 50,
    residualHold := 30, decelGrace := 10, leadTimeout := 90, idleSetpoint := 150, cooldownTemp := 80,
    chillWaterMax := 22, staleAge := 5, heartbeatTenths := 20, activeHigh := ⟨false, false, false, false⟩,
    confirmMs := 20 }

/-- The calibration in force, its valid flag and its changed mark (R150, R151). -/
structure CalRecord where
  values : Calibration
  valid : Bool
  changed : Bool
  deriving DecidableEq, Repr, Inhabited

/-! ## Lanes -/

/-- The seven lane states (R42). -/
inductive LaneState where
  | unthreaded | threading | ready | running | broke | broken | suspended
  deriving DecidableEq, Repr, Inhabited

/-- The lead status (R42). -/
inductive LeadStatus where
  | leading | led
  deriving DecidableEq, Repr, Inhabited

/-- A lead band with its status; the two are present together (R42). -/
structure Lead where
  band : Nat
  status : LeadStatus
  deriving DecidableEq, Repr, Inhabited

/-- A lane's encoder (R61): the edges of the current window and of the window before it, the microseconds since the
last counted edge as far as the 7 µs rule needs them (7 stands for "7 or more, or no edge yet"), and the ms of the
current window. -/
structure Encoder where
  edges : Nat
  previous : Nat
  sinceUs : Nat
  windowMs : Nat
  deriving DecidableEq, Repr, Inhabited

/-- A lane record (R42), with the lane's encoder (R61) and the in-band state of its zones (R105; absent for an unbound
lane). Times are in ms. -/
structure Lane where
  state : LaneState
  key : Option Nat
  g : Nat
  target : Option Nat
  measured : Nat
  overCount : Nat
  overspeed : Bool
  graceMs : Nat
  stamp : BitVec 16
  lead : Option Lead
  leadMs : Nat
  residual : Option Nat
  residualMs : Nat
  hotWeb : Nat
  inBand : Option Bool
  encoder : Encoder
  deriving DecidableEq, Repr, Inhabited

/-- A lane record after power-on and station reset (R45, R110). DESIGN CHOICE: no edge is too close to one before the
reset (assumption 13). -/
def Lane.fresh : Lane :=
  { state := .unthreaded, key := none, g := 0, target := none, measured := 0, overCount := 0, overspeed := false,
    graceMs := 0, stamp := 0, lead := none, leadMs := 0, residual := none, residualMs := 0, hotWeb := 0,
    inBand := none, encoder := ⟨0, 0, 7, 0⟩ }

/-! ## Load computer, grant arbiter, exhaust unit, dryer sequencer -/

/-- The load computer's own records (R29, R35, R36, R33). -/
structure LoadComputer where
  activeLimit : Nat
  estimated : Nat
  peak : Nat
  fanDemand : Nat
  deriving DecidableEq, Repr, Inhabited

/-- The grant arbiter's own records (R64, R65, R73, R69). -/
structure Arbiter where
  queue : List LaneId
  stamp : BitVec 16
  excess : Nat
  evalMs : Nat
  deriving DecidableEq, Repr, Inhabited

/-- The counts of the last four completed flow windows, oldest first (R84). -/
structure FlowHistory where
  oldest : Nat
  older : Nat
  newer : Nat
  newest : Nat
  deriving DecidableEq, Repr, Inhabited

/-- The exhaust unit (R84, R85, R87). -/
structure Exhaust where
  history : FlowHistory
  qMeas : Nat
  count : Nat
  sinceUs : Nat
  windowMs : Nat
  accumulator : Nat
  zeroRun : Nat
  deriving DecidableEq, Repr, Inhabited

/-- The dryer states (R83). -/
inductive DryerState where
  | off | purge | heating | cooldown | safeHold
  deriving DecidableEq, Repr, Inhabited

/-- The causes of SAFE_HOLD (R83, R93). -/
inductive HoldCause where
  | overload | flowLost | analyzerHigh
  deriving DecidableEq, Repr, Inhabited

/-- The dryer sequencer's record (R83). Times are in ms. -/
structure Dryer where
  state : DryerState
  purgeMs : Nat
  cooldownMs : Nat
  lastCause : Option HoldCause
  deriving DecidableEq, Repr, Inhabited

/-! ## Readings -/

/-- One reading channel (R99). The age is in ms. -/
structure Reading where
  value : Option Int
  fresh : Bool
  ageMs : Nat
  deriving DecidableEq, Repr, Inhabited

/-- The five channels of a lane (R98). -/
structure LaneReadings where
  zones : PerZone Reading
  webExit : Reading
  chillExit : Reading
  deriving DecidableEq, Repr, Inhabited

/-- The reading table (R98). -/
structure Readings where
  lanes : PerLane LaneReadings
  analyzer : Reading
  chillWater : Reading
  deriving DecidableEq, Repr, Inhabited

/-- A channel after power-on and station reset (R99). -/
def Reading.absent : Reading := ⟨none, false, 0⟩

/-- The reading table after power-on and station reset (R99, R110). -/
def Readings.fresh : Readings :=
  let z : PerZone Reading := ⟨.absent, .absent, .absent⟩
  let l : LaneReadings := ⟨z, .absent, .absent⟩
  ⟨⟨l, l, l, l⟩, .absent, .absent⟩

/-! ## Break unit -/

/-- A break input (R111): its present level (true is high) and its confirmation timer in ms, or idle. -/
structure BreakInput where
  level : Bool
  timer : Option Nat
  deriving DecidableEq, Repr, Inhabited

/-- The running horn cadence (R120): on or off phase, pulse 1 to 3, ms left in the phase. -/
structure Cadence where
  on : Bool
  pulse : Nat
  leftMs : Nat
  deriving DecidableEq, Repr, Inhabited

/-- The horn's records (R120). -/
structure Horn where
  cadence : Option Cadence
  continuous : Bool
  deriving DecidableEq, Repr, Inhabited

/-! ## Line link port -/

/-- The port states (chapter 8, Receiving frames). -/
inductive PortState where
  | hunt | receive | hold | answer
  deriving DecidableEq, Repr, Inhabited

/-- The last-error kinds (R130, R133). -/
inductive LinkError where
  | none | parity | framing | overrun | length | short | check | overlong | broadcast | collision
  deriving DecidableEq, Repr, Inhabited

/-- The line link port (R123 to R136). `idleMs` is how long the line has been idle, as far as the 4 character times of
R128 need it; `answerMs` is how long the answer has waited, or has been sent (R132); `held` says that the link-free
input is still low after its event (R134). -/
structure Port where
  state : PortState
  rx : List Byte
  idleMs : Nat
  answer : List Byte
  answerMs : Nat
  driving : Bool
  held : Bool
  rate : BitVec 2
  address : BitVec 5
  lastError : LinkError
  discarded : Nat
  collisions : Nat
  deriving DecidableEq, Repr, Inhabited

/-- What the owner of a request answers (R132): DONE with a body, REFUSED with a reason code and a detail, or BUSY. -/
inductive Reply where
  | done (body : List Byte)
  | refused (reason detail : Byte)
  | busy
  deriving DecidableEq, Repr, Inhabited

/-! ## Attention unit and heartbeat supervisor -/

/-- The eighteen attention causes in the order of their table (R137). -/
inductive Cause where
  | webBreak | safeHold | flowLost | analyzerHigh | purgeFailed | masterSilent
  | grantReached | withdrawn | bandLeadTimeout | hotWeb | overspeed | zoneOvertemp | readingStale
  | profileRetired | storeDone | storeFault | storeSlotLost | cooldownDone
  deriving DecidableEq, Repr, Inhabited

/-- The eight lane sets of the attention record (R137, R162); bit n - 1 stands for lane n (R154). -/
structure LaneSets where
  webBreak : BitVec 4
  grantReached : BitVec 4
  withdrawn : BitVec 4
  bandLeadTimeout : BitVec 4
  hotWeb : BitVec 4
  overspeed : BitVec 4
  zoneOvertemp : BitVec 4
  readingStale : BitVec 4
  deriving DecidableEq, Repr, Inhabited

/-- The attention record and the routine mask (R137, R142); bit n of `latched` and `mask` is cause n (R162). -/
structure Attention where
  latched : BitVec 18
  sets : LaneSets
  staleCommon : Bool
  faultSlots : BitVec 48
  faultCalibration : Bool
  slotsLost : Nat
  mask : BitVec 18
  deriving DecidableEq, Repr, Inhabited

/-- The routine causes, bits 6 to 17 (R137). -/
def routineCauses : BitVec 18 := 0x3FFC0

/-- The attention record after power-on and station reset, before the store load speaks: every cause clear, every
routine cause masked (R139). -/
def Attention.fresh : Attention :=
  { latched := 0, sets := ⟨0, 0, 0, 0, 0, 0, 0, 0⟩, staleCommon := false, faultSlots := 0,
    faultCalibration := false, slotsLost := 0, mask := routineCauses }

/-- The heartbeat supervisor (chapter 9). The timer is in ms. -/
structure Heartbeat where
  armed : Bool
  timerMs : Nat
  silent : Bool
  deriving DecidableEq, Repr, Inhabited

/-! ## Profile store -/

/-- What a store slot holds (R146): nothing, an image with a good check, something that is neither erased nor a good
image, or the undefined content of a failed or interrupted write (a free value, numbered). -/
inductive SlotContent (α : Type) where
  | erased
  | image (image : α)
  | damaged
  | undefined (n : Nat)
  deriving DecidableEq, Repr, Inhabited

/-- The profile store (R146): 48 profile slots and the calibration slot. The calibration image is the list of the 29
values in index order, as a block that CWR carries. -/
structure Store where
  slots : List (SlotContent ProfileImage)
  calibration : SlotContent (List Nat)
  deriving DecidableEq, Repr, Inhabited

/-- A store of erased slots. -/
def Store.erased : Store := ⟨List.replicate 48 .erased, .erased⟩

/-- A commit in flight (R147, R148): the profile writes still to come, the first being the one in progress (`none`
erases the slot); the calibration image if it is still to be written; the slots whose mark was set again after the
snapshot; the ms of the write in progress. -/
structure Commit where
  writes : List (Nat × Option ProfileImage)
  calibration : Option (List Nat)
  remarked : BitVec 48
  elapsedMs : Nat
  deriving DecidableEq, Repr, Inhabited

/-! ## Output lines -/

/-- The output lines (R145): speed-permit duties, fan-demand duty, burner permits, horn, attention (true is
asserted). -/
structure Lines where
  speed : PerLane Nat
  fan : Nat
  burners : PerLane (PerZone Bool)
  horn : Bool
  attention : Bool
  deriving DecidableEq, Repr, Inhabited

/-- Every push-pull line low and the attention line released (R145). -/
def Lines.low : Lines :=
  let z : PerZone Bool := ⟨false, false, false⟩
  ⟨⟨0, 0, 0, 0⟩, 0, ⟨z, z, z, z⟩, false, false⟩

end Sys2Proof.Machine
end

