-- ==== Sys2Proof/Config.lean ====
section
/-! DEFINITION. The free values: what the manual leaves open and an implementation or the moment decides. None has a
body, so that no proof can lean on a value of it. -/

namespace Sys2Proof

/-- Free value (R146): what reading profile slot content number n gives after a write that failed or was cut short:
nothing legible (`none`), or an erased slot or an image with a good check. Assumption 9. -/
opaque Config.undefinedProfileSlot : Nat → Option (Option Machine.ProfileImage)

/-- Free value (R146): the same for the calibration slot. Assumption 9. -/
opaque Config.undefinedCalibrationSlot : Nat → Option (List Nat)

/-- Free value (R148): whether the slot write that ends while only time passes verifies. Assumption 11. -/
opaque Config.writeVerifies : Nat → Bool

/-- Free value (R124, R130): the order in which the port looks for the three errors of one character; a smaller number
is looked for first. The argument is 0 for parity, 1 for framing, 2 for overrun. Assumption 10. -/
opaque Config.characterErrorRank : Nat → Nat

/-- Free value (R132): how many ms the port lets pass in its answer window before it begins the answer, where only time
passes; the window bounds it. Assumption 4. -/
opaque Config.answerDelayMs : Nat → Nat

/-- Free value (R27, R69, R89, R118): the order in which events that fall due in one ms are taken; the second argument
is how many of them come after the one that is placed. Assumption 2. -/
opaque Config.dueOrder : Nat → Nat → Nat

end Sys2Proof
end

