-- ==== Sys2Proof/Machine/Frame.lean ====
section
/-! DEFINITION. Characters, frames and their check (R123 to R127, R154): what the port computes over the characters of
the line. -/

namespace Sys2Proof.Machine

/-! ## The strapped rate (R123) -/

/-- The oscillator of the port, in Hz (R123). -/
def oscillatorHz : Nat := 14745600

/-- The divisor that the rate straps choose (R123). -/
def rateDivisor (rate : BitVec 2) : Nat :=
  match rate.toNat with
  | 0 => 95
  | 1 => 47
  | 2 => 15
  | _ => 7

/-- The line rate in bit/s (R123). -/
def bitRate (rate : BitVec 2) : Nat := oscillatorHz / (16 * (rateDivisor rate + 1))

/-- The time of n characters of eleven bits at a rate, in whole ms rounded up (R124). -/
def charactersMs (rate : BitVec 2) (n : Nat) : Nat := (n * 11 * 1000 + (bitRate rate - 1)) / bitRate rate

/-- The ms after which the line has certainly been idle for more than 4 character times (R128). -/
def gapMs (rate : BitVec 2) : Nat := charactersMs rate 4

/-- The whole ms from the taking of a frame, 4 character times after its last check character, to the end of the answer
window, 10 ms after that character (R132). -/
def windowMs (rate : BitVec 2) : Nat := 10 - gapMs rate

end Sys2Proof.Machine

namespace Sys2Proof

open Sys2Proof.Machine

/-! ## Characters (R124) -/

/-- The number of ones among the first n bits. -/
def onesBelow (w : Byte) : Nat → Nat
  | 0 => 0
  | n + 1 => (if w.getLsbD n then 1 else 0) + onesBelow w n

/-- A parity error: the ones among data and parity are odd in number (R124). -/
def LineChar.parityError (c : LineChar) : Bool :=
  (onesBelow c.data 8 + (if c.parity then 1 else 0)) % 2 == 1

/-- A framing error: the stop bit is low (R124). -/
def LineChar.framingError (c : LineChar) : Bool := !c.stop

/-- A bad character: one that has any of the three errors (R124). -/
def LineChar.bad (c : LineChar) : Bool := c.parityError || c.framingError || c.overrun

/-- The errors a character has, each with the rank at which the port looks for it. -/
def LineChar.errors (c : LineChar) : List (Nat × LinkError) :=
  (if c.parityError then [(Config.characterErrorRank 0, LinkError.parity)] else []) ++
  (if c.framingError then [(Config.characterErrorRank 1, LinkError.framing)] else []) ++
  (if c.overrun then [(Config.characterErrorRank 2, LinkError.overrun)] else [])

/-- The kind that a bad character gives its frame (R130). Of several errors of one character the first one found
counts; the manual gives no order, so the order is a free value (assumption 10). -/
def firstError : List (Nat × LinkError) → LinkError
  | [] => .none
  | [e] => e.2
  | e :: es => if es.all (fun d => e.1 ≤ d.1) then e.2 else firstError es

/-- The kind of a character's first error. -/
def LineChar.errorKind (c : LineChar) : LinkError := firstError c.errors

end Sys2Proof

namespace Sys2Proof.Machine

/-! ## The check (R127) -/

/-- One bit step of the check register: polynomial x^16 + x^12 + x^5 + 1. -/
def checkShift (r : BitVec 16) : BitVec 16 :=
  if r.getLsbD 15 then (r <<< 1) ^^^ 0x1021 else r <<< 1

/-- n bit steps. -/
def checkShifts : Nat → BitVec 16 → BitVec 16
  | 0, r => r
  | n + 1, r => checkShifts n (checkShift r)

/-- One character fed in, most significant bit first. -/
def checkStep (r : BitVec 16) (c : Byte) : BitVec 16 :=
  checkShifts 8 (r ^^^ (c.zeroExtend 16 <<< 8))

/-- The check over characters, the register preset to all ones and not inverted at the end (R127). -/
def checkOf (cs : List Byte) : BitVec 16 := cs.foldl checkStep 0xFFFF

/-- A received frame is good when the check over all its characters is 0 (R127). -/
def frameGood (cs : List Byte) : Bool := checkOf cs == 0

/-- The low eight bits of a number as a byte. -/
def byteOf (n : Nat) : Byte := BitVec.ofNat 8 n

/-- A frame with its check (R126). -/
def frameOf (address code : Byte) (body : List Byte) : List Byte :=
  let cs := address :: code :: byteOf body.length :: body
  let k := checkOf cs
  cs ++ [byteOf (k.toNat / 256), byteOf k.toNat]

/-! ## Requests and answers (R154) -/

/-- The request codes (R154). -/
def codePlook : Byte := 0x01
def codePlist : Byte := 0x02
def codePwrite : Byte := 0x03
def codePtrim : Byte := 0x04
def codePretire : Byte := 0x05
def codeLthrd : Byte := 0x08
def codeLunth : Byte := 0x09
def codeLspd : Byte := 0x0A
def codeLclr : Byte := 0x0B
def codeLbrk : Byte := 0x0C
def codeLstat : Byte := 0x0D
def codeDstart : Byte := 0x10
def codeDstop : Byte := 0x11
def codeDstat : Byte := 0x12
def codeRdg : Byte := 0x14
def codeBeat : Byte := 0x18
def codeAtrd : Byte := 0x19
def codeAtclr : Byte := 0x1A
def codeAtmsk : Byte := 0x1B
def codePkrd : Byte := 0x1C
def codeScommit : Byte := 0x20
def codeCrd : Byte := 0x21
def codeCwr : Byte := 0x22
def codeSrst : Byte := 0x28
def codeKstat : Byte := 0x29

/-- The codes of the requests of the part (R154). -/
def requestCodes : List Byte :=
  [codePlook, codePlist, codePwrite, codePtrim, codePretire, codeLthrd, codeLunth, codeLspd, codeLclr, codeLbrk,
   codeLstat, codeDstart, codeDstop, codeDstat, codeRdg, codeBeat, codeAtrd, codeAtclr, codeAtmsk, codePkrd,
   codeScommit, codeCrd, codeCwr, codeSrst, codeKstat]

/-- The code byte of an answer: the request code in bits 5 to 0, the answer kind in bits 7 and 6 (R154). -/
def Reply.codeByte (r : Reply) (code : Byte) : Byte :=
  let low := code &&& 0x3F
  match r with
  | .done _ => low ||| 0x40
  | .refused _ _ => low ||| 0x80
  | .busy => low ||| 0xC0

/-- The body of an answer (R132, R154). -/
def Reply.body : Reply → List Byte
  | .done b => b
  | .refused reason detail => [reason, detail]
  | .busy => []

/-- The answer frame that the part sends (R132). -/
def answerFrame (address : BitVec 5) (code : Byte) (r : Reply) : List Byte :=
  frameOf (address.zeroExtend 8) (r.codeByte code) r.body

/-! ## Refusal reasons (R154) -/

def Reply.unknownRequest : Reply := .refused 1 0
def Reply.badLength : Reply := .refused 2 0
def Reply.badField (detail : Nat) : Reply := .refused 3 (byteOf detail)
def Reply.notFound : Reply := .refused 4 0
def Reply.tableFull : Reply := .refused 5 0
def Reply.inUse : Reply := .refused 6 0
def Reply.retiring : Reply := .refused 7 0
def Reply.staleRevision (revision : Byte) : Reply := .refused 8 revision
def Reply.wrongState : Reply := .refused 9 0
def Reply.notHeating : Reply := .refused 10 0
def Reply.residual : Reply := .refused 11 0
def Reply.inputActive : Reply := .refused 12 0
def Reply.silent : Reply := .refused 13 0
def Reply.calInvalid : Reply := .refused 14 0
def Reply.lanesRunning : Reply := .refused 15 0

end Sys2Proof.Machine
end

