-- ==== Sys2Proof/Machine/Operands.lean ====
section
/-! DEFINITION. The operand forms: how the bodies of requests are read and how the bodies of answers are formed
(chapter 11, R154 to R163), and the field tests that PWRITE, the store load and CWR make on what was read. -/

namespace Sys2Proof.Machine

/-! ## Bytes (R154) -/

/-- The quotient rounded up. -/
def ceilDiv (a b : Nat) : Nat := (a + (b - 1)) / b

/-- A quantity of two bytes, high byte first. -/
def be2 (n : Nat) : List Byte := [byteOf (n / 0x100), byteOf n]

/-- A quantity of three bytes, high byte first. -/
def be3 (n : Nat) : List Byte := [byteOf (n / 0x10000), byteOf (n / 0x100), byteOf n]

/-- A quantity of four bytes, high byte first. -/
def be4 (n : Nat) : List Byte := [byteOf (n / 0x1000000), byteOf (n / 0x10000), byteOf (n / 0x100), byteOf n]

/-- An answer flag, 0 or 1. -/
def flagByte (b : Bool) : Byte := if b then 1 else 0

/-- An unsigned quantity read from two bytes, high byte first. -/
def read2 (hi lo : Byte) : Nat := hi.toNat * 0x100 + lo.toNat

/-- A signed quantity read from two bytes, two's complement. -/
def readSigned (hi lo : Byte) : Int := (hi ++ lo).toInt

end Sys2Proof.Machine

namespace Sys2Proof

/-! ## Lanes, zones and channels -/

/-- The lanes in ascending number. -/
def LaneId.all : List LaneId := [.one, .two, .three, .four]

/-- A lane's number, 1 to 4. -/
def LaneId.number : LaneId → Nat
  | .one => 1
  | .two => 2
  | .three => 3
  | .four => 4

/-- The lane of a number, if it is 1 to 4. -/
def LaneId.ofNumber : Nat → Option LaneId
  | 1 => some .one
  | 2 => some .two
  | 3 => some .three
  | 4 => some .four
  | _ => none

/-- A lane's bit in a lane set: bit n - 1 for lane n (R154). -/
def LaneId.bit : LaneId → BitVec 4
  | .one => 1
  | .two => 2
  | .three => 4
  | .four => 8

/-- The zones in order. -/
def ZoneId.all : List ZoneId := [.z1, .z2, .z3]

/-- The five channels of a lane by their offset from the lane's first channel (R98). -/
def laneChannel (n : LaneId) : Nat → Channel
  | 0 => .zone n .z1
  | 1 => .zone n .z2
  | 2 => .zone n .z3
  | 3 => .webExit n
  | _ => .chillExit n

/-- The channel of a number, if it is 1 to 22 (R98). -/
def Channel.ofNumber (k : Nat) : Option Channel :=
  if k = 21 then some .analyzer
  else if k = 22 then some .chillWater
  else if k = 0 then none
  else (LaneId.ofNumber ((k - 1) / 5 + 1)).map fun n => laneChannel n ((k - 1) % 5)

/-- The lane that owns a channel, if one does (R98). -/
def Channel.lane : Channel → Option LaneId
  | .zone n _ => some n
  | .webExit n => some n
  | .chillExit n => some n
  | .analyzer => none
  | .chillWater => none

/-- Whether a channel is a zone channel. -/
def Channel.isZone : Channel → Bool
  | .zone _ _ => true
  | _ => false

/-- The range of a channel (R98). -/
def Channel.range : Channel → Int × Int
  | .zone _ _ => (-40, 600)
  | .webExit _ => (-40, 300)
  | .chillExit _ => (-40, 150)
  | .analyzer => (0, 100)
  | .chillWater => (-40, 100)

/-- A value clamped to its channel's range (R101). -/
def Channel.clamp (c : Channel) (v : Int) : Int := max c.range.1 (min v c.range.2)

/-- All 22 channels. -/
def Channel.all : List Channel :=
  (LaneId.all.map fun n => [Channel.zone n .z1, .zone n .z2, .zone n .z3, .webExit n, .chillExit n]).flatten
    ++ [.analyzer, .chillWater]

end Sys2Proof

namespace Sys2Proof.Machine

/-! ## State codes (R154) -/

def LaneState.code : LaneState → Byte
  | .unthreaded => 0
  | .threading => 1
  | .ready => 2
  | .running => 3
  | .broke => 4
  | .broken => 5
  | .suspended => 6

def DryerState.code : DryerState → Byte
  | .off => 0
  | .purge => 1
  | .heating => 2
  | .cooldown => 3
  | .safeHold => 4

def HoldCause.code : Option HoldCause → Byte
  | none => 0
  | some .overload => 1
  | some .flowLost => 2
  | some .analyzerHigh => 3

def Lead.statusCode : Option Lead → Byte
  | none => 0
  | some ⟨_, .leading⟩ => 1
  | some ⟨_, .led⟩ => 2

def LinkError.code : LinkError → Byte
  | .none => 0
  | .parity => 1
  | .framing => 2
  | .overrun => 3
  | .length => 4
  | .short => 5
  | .check => 6
  | .overlong => 7
  | .broadcast => 8
  | .collision => 9

/-! ## The profile record (R155) -/

/-- A couple from its 24-bit word: bits 23 to 20 the id, 19 to 10 the solvent rate, 9 to 0 the coverage. -/
def coupleOfWord (w : Nat) : Couple :=
  { id := w / 0x100000 % 0x10, coverage := w % 0x400, rate := w / 0x400 % 0x400 }

/-- The 24-bit word of a couple. -/
def Couple.word (c : Couple) : Nat := c.id * 0x100000 + c.rate * 0x400 + c.coverage

/-- A couple read from three bytes. -/
def readCouple (a b c : Byte) : Couple := coupleOfWord (a.toNat * 0x10000 + b.toNat * 0x100 + c.toNat)

/-- n couple entries, in the order of the body. -/
def readCouples : Nat → List Byte → List Couple
  | n + 1, a :: b :: c :: rest => readCouple a b c :: readCouples n rest
  | _, _ => []

/-- n band entries. -/
def readBands : Nat → List Byte → List Band
  | n + 1, u1 :: u0 :: a1 :: a0 :: b1 :: b0 :: c1 :: c0 :: w :: x :: rest =>
    ⟨read2 u1 u0, read2 a1 a0, read2 b1 b0, read2 c1 c0, w.toNat, x.toNat⟩ :: readBands n rest
  | _, _ => []

/-- An optional field whose byte 0 stands for its absence (R154). -/
def readOptional (b : Byte) : Option Nat := if b = 0 then none else some b.toNat

/-- The header of a PWRITE body (R155) and the bytes of the entries. -/
structure PwriteBody where
  key : Nat
  width : Nat
  tolerance : Nat
  override : Option Nat
  coupleCount : Nat
  bandCount : Nat
  entries : List Byte
  deriving DecidableEq, Repr

/-- A PWRITE body of at least 8 bytes, its header read. -/
def readPwrite : List Byte → Option PwriteBody
  | k1 :: k0 :: w1 :: w0 :: t :: o :: nc :: nb :: rest =>
    some ⟨read2 k1 k0, read2 w1 w0, t.toNat, readOptional o, nc.toNat, nb.toNat, rest⟩
  | _ => none

/-- The fields that a PWRITE body carries, its length having agreed with its counts. -/
def PwriteBody.fields (b : PwriteBody) : ProfileFields :=
  { key := b.key, width := b.width, couples := readCouples b.coupleCount b.entries,
    bands := readBands b.bandCount (b.entries.drop (3 * b.coupleCount)),
    tolerance := b.tolerance, override := b.override }

/-- A range test. -/
def within (lo hi v : Nat) : Bool := lo ≤ v && v ≤ hi

/-- The tests of the couple entries from the n-th on (n counted from 0), each with its field index (R16); `seen` are
the ids given earlier in the body. -/
def coupleTests : Nat → List Nat → List Couple → List (Nat × Bool)
  | _, _, [] => []
  | n, seen, c :: cs =>
    (8 + 3 * n, within 1 8 c.id && !seen.contains c.id) ::
    (9 + 3 * n, within 0 400 c.coverage) ::
    (10 + 3 * n, within 0 1000 c.rate) ::
    coupleTests (n + 1) (c.id :: seen) cs

/-- The tests of the band entries from the n-th on (n counted from 0), each with its field index (R16); `before` is the
bound of the band before. -/
def bandTests : Nat → Nat → List Band → List (Nat × Bool)
  | _, _, [] => []
  | n, before, b :: bs =>
    (32 + 6 * n, within 60 1200 b.bound && b.bound % 5 == 0 && before < b.bound) ::
    (33 + 6 * n, within 100 400 b.z1) ::
    (34 + 6 * n, within 100 400 b.z2) ::
    (35 + 6 * n, within 100 400 b.z3) ::
    (36 + 6 * n, within 80 180 b.webExitMin) ::
    (37 + 6 * n, within 15 45 b.chillExitMax) ::
    bandTests (n + 1) b.bound bs

/-- The field tests of PWRITE in ascending field index (R16). -/
def ProfileFields.tests (f : ProfileFields) : List (Nat × Bool) :=
  [(1, within 1 65535 f.key), (2, within 300 1100 f.width), (3, within 5 40 f.tolerance),
   (4, match f.override with
       | none => true
       | some v => within 5 120 v),
   (5, within 1 8 f.couples.length), (6, within 1 6 f.bands.length)] ++
  coupleTests 0 [] f.couples ++ bandTests 0 0 f.bands

/-- The index of the first test that fails. -/
def firstFailed (tests : List (Nat × Bool)) : Option Nat := (tests.find? fun t => !t.2).map (·.1)

/-- A couple put at its place in ascending couple id (R2). -/
def insertCouple (c : Couple) : List Couple → List Couple
  | [] => [c]
  | d :: ds => if c.id < d.id then c :: d :: ds else d :: insertCouple c ds

/-- Couples filed in ascending couple id (R2). -/
def sortCouples : List Couple → List Couple
  | [] => []
  | c :: cs => insertCouple c (sortCouples cs)

/-- The fields with their couples filed (R17, R18). -/
def ProfileFields.filed (f : ProfileFields) : ProfileFields := { f with couples := sortCouples f.couples }

/-- The bytes of the couple and band entries (R155). -/
def ProfileFields.entryBytes (f : ProfileFields) : List Byte :=
  (f.couples.map fun c => be3 c.word).flatten ++
  (f.bands.map fun b =>
    be2 b.bound ++ be2 b.z1 ++ be2 b.z2 ++ be2 b.z3 ++ [byteOf b.webExitMin, byteOf b.chillExitMax]).flatten

/-- The PLOOK answer (R155). -/
def Profile.lookBytes (p : Profile) (changed : Bool) : List Byte :=
  be2 p.key ++ [p.revision] ++ be2 p.width ++
  [byteOf p.tolerance, byteOf (p.override.getD 0), flagByte p.retirePending, byteOf p.bindCount, flagByte changed,
   byteOf p.couples.length, byteOf p.bands.length] ++
  p.entryBytes

/-! ## Trim items (R156, R157) -/

/-- The trim items (R20). An item of a kind not in the table is `unknown`. -/
inductive TrimItem where
  | setCoverage (id coverage : Nat)
  | setRate (id rate : Nat)
  | addCouple (couple : Couple)
  | removeCouple (id : Nat)
  | setBandField (band field value : Nat)
  | setBandBound (band bound : Nat)
  | setTolerance (value : Nat)
  | setOverride (seconds : Nat)
  | clearOverride
  | unknown
  deriving DecidableEq, Repr

/-- What the length test of PTRIM finds at the next item. -/
inductive ItemRead where
  | item (i : TrimItem) (rest : List Byte)
  | unknownKind
  | cutShort
  deriving DecidableEq, Repr

/-- The next item of a PTRIM body (R156). -/
def readItem : List Byte → ItemRead
  | [] => .cutShort
  | kind :: rest =>
    match kind.toNat, rest with
    | 1, i :: c1 :: c0 :: r => .item (.setCoverage i.toNat (read2 c1 c0)) r
    | 2, i :: c1 :: c0 :: r => .item (.setRate i.toNat (read2 c1 c0)) r
    | 3, a :: b :: c :: r => .item (.addCouple (readCouple a b c)) r
    | 4, i :: r => .item (.removeCouple i.toNat) r
    | 5, b :: f :: v1 :: v0 :: r => .item (.setBandField b.toNat f.toNat (read2 v1 v0)) r
    | 6, b :: v1 :: v0 :: r => .item (.setBandBound b.toNat (read2 v1 v0)) r
    | 7, v :: r => .item (.setTolerance v.toNat) r
    | 8, v :: r => .item (.setOverride v.toNat) r
    | 9, r => .item .clearOverride r
    | k, _ => if 1 ≤ k ∧ k ≤ 8 then .cutShort else .unknownKind

/-- The length test of PTRIM (R157): the items, or none where the length does not agree. The test stops at an unknown
kind and takes the body as agreeing if it holds at least one byte for every item still to come. -/
def readItems : Nat → List Byte → Option (List TrimItem)
  | 0, rest => if rest = [] then some [] else none
  | n + 1, bytes =>
    match readItem bytes with
    | .item i rest => (readItems n rest).map (i :: ·)
    | .unknownKind => if n + 1 ≤ bytes.length then some [.unknown] else none
    | .cutShort => none

/-- The header of a PTRIM body (R156). -/
structure PtrimBody where
  key : Nat
  expected : Option Byte
  count : Nat
  items : List Byte
  deriving DecidableEq, Repr

/-- A PTRIM body of at least 5 bytes, its header read; a presence byte of 0 means absent (R154). -/
def readPtrim : List Byte → Option PtrimBody
  | k1 :: k0 :: p :: e :: n :: rest => some ⟨read2 k1 k0, if p = 0 then none else some e, n.toNat, rest⟩
  | _ => none

/-! ## Reading pairs (R158) -/

/-- n reading pairs: channel number and signed value. -/
def readPairs : Nat → List Byte → List (Nat × Int)
  | n + 1, c :: v1 :: v0 :: rest => (c.toNat, readSigned v1 v0) :: readPairs n rest
  | _, _ => []

/-! ## The calibration block (R161) -/

/-- Whether the calibration value of an index takes two bytes: 5, 6, 7, 19 and 20 do, every other takes one. -/
def calibrationWide (i : Nat) : Bool := i == 5 || i == 6 || i == 7 || i == 19 || i == 20

/-- n values from an index on. -/
def readValues : Nat → Nat → List Byte → List Nat
  | 0, _, _ => []
  | _ + 1, _, [] => []
  | n + 1, i, hi :: rest =>
    if calibrationWide i then
      match rest with
      | lo :: rest' => read2 hi lo :: readValues n (i + 1) rest'
      | [] => []
    else hi.toNat :: readValues n (i + 1) rest

/-- The 29 values of a CWR body in index order, if it has the length of the block. -/
def readCalibration (body : List Byte) : Option (List Nat) :=
  if body.length = 34 then some (readValues 29 1 body) else none

/-- The test of calibration value `index` (R150, R152): Q_min is tested against the Q_max of the block, Q_purge against
its Q_min and Q_max. -/
def calibrationTest (qMax qMin : Nat) (index v : Nat) : Bool :=
  match index with
  | 1 => within 20 80 v
  | 2 => within 10 25 v
  | 3 => within 26 50 v
  | 4 => v ≤ 1
  | 5 => within 100 3000 v
  | 6 => within 20 qMax v
  | 7 => within qMin qMax v
  | 8 => within 5 200 v
  | 9 => within 1 100 v
  | 10 => v ≤ 50
  | 11 => within 1 200 v
  | 12 => within 1 200 v
  | 13 => within 1 200 v
  | 14 => within 1 200 v
  | 15 => within 10 60 v && v % 5 == 0
  | 16 => within 5 200 v && v % 5 == 0
  | 17 => within 5 120 v
  | 18 => within 2 30 v
  | 19 => within 10 300 v
  | 20 => within 100 300 v
  | 21 => within 50 150 v
  | 22 => within 5 40 v
  | 23 => within 1 30 v
  | 24 => within 5 100 v
  | 29 => within 5 100 v
  | _ => v ≤ 1

/-- The tests of values from an index on. -/
def calibrationTestsFrom (qMax qMin : Nat) : Nat → List Nat → List (Nat × Bool)
  | _, [] => []
  | i, v :: vs => (i, calibrationTest qMax qMin i v) :: calibrationTestsFrom qMax qMin (i + 1) vs

/-- The tests of CWR on a block, in ascending index (R152). -/
def calibrationTests (vs : List Nat) : List (Nat × Bool) :=
  calibrationTestsFrom (vs.getD 4 0) (vs.getD 5 0) 1 vs

/-- The calibration of a block of 29 values in index order. -/
def Calibration.ofValues (vs : List Nat) : Calibration :=
  let v (i : Nat) : Nat := vs.getD (i - 1) 0
  { cl := v 1, normalLimit := v 2, monitoredLimit := v 3, analyzerFitted := v 4 == 1, qMax := v 5, qMin := v 6,
    qPurge := v 7, volume := v 8, pulsesPerM3 := v 9, margin := v 10,
    encoderPpm := ⟨v 11, v 12, v 13, v 14⟩, crawl := v 15, rampStep := v 16, residualHold := v 17,
    decelGrace := v 18, leadTimeout := v 19, idleSetpoint := v 20, cooldownTemp := v 21, chillWaterMax := v 22,
    staleAge := v 23, heartbeatTenths := v 24,
    activeHigh := ⟨v 25 == 1, v 26 == 1, v 27 == 1, v 28 == 1⟩, confirmMs := v 29 }

/-- A flag as a block value. -/
def flagValue (b : Bool) : Nat := if b then 1 else 0

/-- The 29 values of a calibration in index order. -/
def Calibration.toValues (c : Calibration) : List Nat :=
  [c.cl, c.normalLimit, c.monitoredLimit, flagValue c.analyzerFitted, c.qMax, c.qMin, c.qPurge, c.volume,
   c.pulsesPerM3, c.margin, c.encoderPpm.one, c.encoderPpm.two, c.encoderPpm.three, c.encoderPpm.four, c.crawl,
   c.rampStep, c.residualHold, c.decelGrace, c.leadTimeout, c.idleSetpoint, c.cooldownTemp, c.chillWaterMax,
   c.staleAge, c.heartbeatTenths, flagValue c.activeHigh.one, flagValue c.activeHigh.two, flagValue c.activeHigh.three,
   flagValue c.activeHigh.four, c.confirmMs]

/-- The bytes of values from an index on: indices 5, 6, 7, 19 and 20 take two bytes, every other one byte (R161). -/
def calibrationBytesFrom : Nat → List Nat → List Byte
  | _, [] => []
  | i, v :: vs =>
    (if calibrationWide i then be2 v else [byteOf v]) ++ calibrationBytesFrom (i + 1) vs

/-- The 34 bytes of a calibration block (R161). -/
def Calibration.bytes (c : Calibration) : List Byte := calibrationBytesFrom 1 c.toValues

/-! ## Cause sets (R162) -/

/-- A cause set from three bytes, if it names no bit above 17. -/
def readCauseSet (a b c : Byte) : Option (BitVec 18) :=
  if a.toNat < 4 then some (BitVec.ofNat 18 (a.toNat * 0x10000 + b.toNat * 0x100 + c.toNat)) else none

end Sys2Proof.Machine
end

