-- ==== Sys2Proof/Machine/State.lean ====
section
/-! DEFINITION. The state of the part, the two ways a step can stop, and the state after reset. -/

namespace Sys2Proof.Machine

/-- The machine's faults. There is none: the manual names no behaviour that stops the part. -/
inductive Fault where
  deriving DecidableEq, Repr

/-- The refusals. -/
inductive Refusal where
  /-- Raised by exec for a command whose meaning is not written; safe, since the model then says nothing. No arm of
  exec uses it now. -/
  | notModelled (mnemonic : String)
  deriving DecidableEq, Repr

/-- Every record of the part, and the queue of commands that wait. -/
structure State where
  /-- the supply is present (R146) -/
  powered : Bool
  /-- the levels of the strap pins (R123, R125) -/
  straps : Straps
  /-- the profile table in ascending job key (R7) -/
  profiles : List Profile
  /-- the changed marks of the 48 slot indices (R8) -/
  marks : BitVec 48
  /-- the calibration (R150) -/
  cal : CalRecord
  /-- the load computer (chapter 2) -/
  load : LoadComputer
  /-- the four lane records (R42) -/
  lanes : PerLane Lane
  /-- the grant arbiter (chapter 4) -/
  arbiter : Arbiter
  /-- the exhaust unit (R84) -/
  exhaust : Exhaust
  /-- the dryer sequencer (R83) -/
  dryer : Dryer
  /-- the reading table (R98) -/
  readings : Readings
  /-- the twelve overtemperature cut flags (R106) -/
  cuts : PerLane (PerZone Bool)
  /-- the four break inputs (R111) -/
  breaks : PerLane BreakInput
  /-- the horn's records (R120) -/
  horn : Horn
  /-- the line link port (chapter 8) -/
  port : Port
  /-- a station reset is accepted and has not yet taken effect (R153) -/
  resetAccepted : Bool
  /-- the attention record (R137) -/
  attention : Attention
  /-- the heartbeat supervisor (R143) -/
  heartbeat : Heartbeat
  /-- the non-volatile store (R146) -/
  store : Store
  /-- the commit in flight, if any (R147) -/
  commit : Option Commit
  /-- the output lines (R145) -/
  lines : Lines
  /-- the model's own counter of free values (assumption 8) -/
  freeIndex : Nat
  /-- the model's own: the expiries of the present millisecond that are still to be taken, in their order (assumption
  2) -/
  owed : List Instr
  /-- the commands that wait, first in first out -/
  pending : List Instr
  deriving DecidableEq, Repr

/-- Every block at its values for after power-on, over a given store that has yielded no record and no calibration,
with given straps and break line levels. -/
def State.fresh (store : Store) (straps : Straps) (levels : PerLane Bool) : State :=
  { powered := true
    straps := straps
    profiles := []
    marks := 0
    cal := ⟨.default, false, false⟩
    load := ⟨Calibration.default.normalLimit, 0, 0, 0⟩
    lanes := ⟨.fresh, .fresh, .fresh, .fresh⟩
    arbiter := ⟨[], 0, 0, 0⟩
    exhaust := ⟨⟨0, 0, 0, 0⟩, 0, 0, 7, 0, 0, 0⟩
    dryer := ⟨.off, 0, 0, none⟩
    readings := .fresh
    cuts := ⟨⟨false, false, false⟩, ⟨false, false, false⟩, ⟨false, false, false⟩, ⟨false, false, false⟩⟩
    breaks := ⟨⟨levels.one, none⟩, ⟨levels.two, none⟩, ⟨levels.three, none⟩, ⟨levels.four, none⟩⟩
    horn := ⟨none, false⟩
    port := { state := .hunt, rx := [], idleMs := 0, answer := [], answerMs := 0, driving := false, held := false,
              rate := straps.rate, address := straps.address, lastError := .none, discarded := 0, collisions := 0 }
    resetAccepted := false
    attention := .fresh
    heartbeat := ⟨false, 0, false⟩
    store := store
    commit := none
    lines := .low
    freeIndex := 0
    owed := []
    pending := [] }

/-- The part right after power-on with an erased store. DESIGN CHOICE: station address 1, both rate straps low
(assumption 5), break lines high (assumption 6), the store erased (assumption 7). -/
def State.reset : State :=
  State.fresh .erased ⟨0, 1⟩ ⟨true, true, true, true⟩

end Sys2Proof.Machine
end

