-- ==== Sys2Proof/Machine/Ops.lean ====
section
/-! DEFINITION. The named operations over the records: reading and writing a lane, a channel, a profile, a mark;
latching a cause; the horn. Every access to these records goes through them. -/

namespace Sys2Proof.Machine

/-! ## One of four, one of three -/

/-- The value of a lane. -/
def PerLane.get {α : Type} (p : PerLane α) : LaneId → α
  | .one => p.one
  | .two => p.two
  | .three => p.three
  | .four => p.four

/-- The value of one lane replaced. -/
def PerLane.set {α : Type} (p : PerLane α) (n : LaneId) (v : α) : PerLane α :=
  match n with
  | .one => { p with one := v }
  | .two => { p with two := v }
  | .three => { p with three := v }
  | .four => { p with four := v }

/-- One value per lane from a function of the lane. -/
def PerLane.form {α : Type} (f : LaneId → α) : PerLane α := ⟨f .one, f .two, f .three, f .four⟩

/-- The value of a zone. -/
def PerZone.get {α : Type} (p : PerZone α) : ZoneId → α
  | .z1 => p.z1
  | .z2 => p.z2
  | .z3 => p.z3

/-- The value of one zone replaced. -/
def PerZone.set {α : Type} (p : PerZone α) (z : ZoneId) (v : α) : PerZone α :=
  match z with
  | .z1 => { p with z1 := v }
  | .z2 => { p with z2 := v }
  | .z3 => { p with z3 := v }

/-- One value per zone from a function of the zone. -/
def PerZone.form {α : Type} (f : ZoneId → α) : PerZone α := ⟨f .z1, f .z2, f .z3⟩

/-! ## Lane records -/

/-- The record of a lane. -/
def State.lane (s : State) (n : LaneId) : Lane := s.lanes.get n

/-- The record of a lane written. -/
def State.setLane (s : State) (n : LaneId) (l : Lane) : State := { s with lanes := s.lanes.set n l }

/-- The record of a lane changed. -/
def State.modLane (s : State) (n : LaneId) (f : Lane → Lane) : State := s.setLane n (f (s.lane n))

/-- The lead band cleared, with its status absent and its timer at 0 (R42, R81). -/
def Lane.clearLead (l : Lane) : Lane := { l with lead := none, leadMs := 0 }

/-- What leaving RUNNING does: the hot-web count is set to 0 (R43). -/
def Lane.leaveRunning (l : Lane) : Lane := { l with hotWeb := if l.state = .running then 0 else l.hotWeb }

/-- What entering a state that is not judged for overspeed does (R43). -/
def Lane.unjudged (l : Lane) : Lane := { l with overspeed := false, overCount := 0 }

/-- The lane is in THREADING, READY or RUNNING. -/
def LaneState.moving : LaneState → Bool
  | .threading => true
  | .ready => true
  | .running => true
  | _ => false

/-! ## Reading channels -/

/-- The record of a channel. -/
def State.reading (s : State) : Channel → Reading
  | .zone n z => (s.readings.lanes.get n).zones.get z
  | .webExit n => (s.readings.lanes.get n).webExit
  | .chillExit n => (s.readings.lanes.get n).chillExit
  | .analyzer => s.readings.analyzer
  | .chillWater => s.readings.chillWater

/-- The record of a channel written. -/
def State.setReading (s : State) (c : Channel) (r : Reading) : State :=
  let rs := s.readings
  match c with
  | .zone n z =>
    let l := rs.lanes.get n
    { s with readings := { rs with lanes := rs.lanes.set n { l with zones := l.zones.set z r } } }
  | .webExit n =>
    let l := rs.lanes.get n
    { s with readings := { rs with lanes := rs.lanes.set n { l with webExit := r } } }
  | .chillExit n =>
    let l := rs.lanes.get n
    { s with readings := { rs with lanes := rs.lanes.set n { l with chillExit := r } } }
  | .analyzer => { s with readings := { rs with analyzer := r } }
  | .chillWater => { s with readings := { rs with chillWater := r } }

/-! ## Profiles and the profile table -/

/-- The profile maximum speed: the upper bound of the last band (R4). -/
def maxSpeed (bands : List Band) : Nat := (bands.getLast?.map (·.bound)).getD 0

/-- The band of a speed, counted from 1: the first whose bound is at or above it, or the last (R4). -/
def bandOf : List Band → Nat → Nat
  | [], _ => 1
  | [_], _ => 1
  | b :: bs, v => if v ≤ b.bound then 1 else bandOf bs v + 1

/-- Band number k of a list, counted from 1. -/
def bandAt (bands : List Band) (k : Nat) : Band := bands.getD (k - 1) default

/-- The upper bound of the band of a speed. -/
def boundOf (bands : List Band) (v : Nat) : Nat := (bandAt bands (bandOf bands v)).bound

/-- The record with a job key (R7). -/
def findProfile (ps : List Profile) (key : Nat) : Option Profile := ps.find? (·.key == key)

/-- A record put at its place in ascending job key. -/
def insertProfile (p : Profile) : List Profile → List Profile
  | [] => [p]
  | q :: qs => if p.key < q.key then p :: q :: qs else q :: insertProfile p qs

/-- The record with the key of `p` replaced by `p`. -/
def replaceProfile (ps : List Profile) (p : Profile) : List Profile := ps.map fun q => if q.key = p.key then p else q

/-- The record with a key taken out (R12). -/
def removeProfile (ps : List Profile) (key : Nat) : List Profile := ps.filter (·.key != key)

/-- The lowest slot index from 0 to 47 to which no record is tied (R7). -/
def lowestFreeSlot (ps : List Profile) : Nat :=
  ((List.range 48).find? fun i => !(ps.any (·.slot == i))).getD 48

/-- The profile a lane is bound to. -/
def State.profileOf (s : State) (n : LaneId) : Option Profile :=
  match (s.lane n).key with
  | none => none
  | some k => findProfile s.profiles k

/-- The bands of the profile a lane is bound to. -/
def State.bandsOf (s : State) (n : LaneId) : List Band := ((s.profileOf n).map (·.bands)).getD []

/-- The bit of a slot index among the 48 marks. -/
def slotBit (i : Nat) : BitVec 48 := 1#48 <<< i

/-- The changed mark of a slot index set (R8). -/
def State.setMark (s : State) (i : Nat) : State := { s with marks := s.marks ||| slotBit i }

/-- The changed mark of a slot index. -/
def State.mark (s : State) (i : Nat) : Bool := s.marks.getLsbD i

/-! ## Causes and lane sets -/

/-- The bit number of a cause (R162). -/
def Cause.index : Cause → Nat
  | .webBreak => 0
  | .safeHold => 1
  | .flowLost => 2
  | .analyzerHigh => 3
  | .purgeFailed => 4
  | .masterSilent => 5
  | .grantReached => 6
  | .withdrawn => 7
  | .bandLeadTimeout => 8
  | .hotWeb => 9
  | .overspeed => 10
  | .zoneOvertemp => 11
  | .readingStale => 12
  | .profileRetired => 13
  | .storeDone => 14
  | .storeFault => 15
  | .storeSlotLost => 16
  | .cooldownDone => 17

/-- The bit of a cause. -/
def Cause.bit (c : Cause) : BitVec 18 := 1#18 <<< c.index

/-- Whether a cause is latched. -/
def Attention.isLatched (a : Attention) (c : Cause) : Bool := a.latched.getLsbD c.index

/-- A cause latched; one already latched stays latched (R137). -/
def Attention.latch (a : Attention) (c : Cause) : Attention := { a with latched := a.latched ||| c.bit }

/-- A lane added to the lane set of a cause; the other causes have none (R137). -/
def LaneSets.add (l : LaneSets) (c : Cause) (n : LaneId) : LaneSets :=
  match c with
  | .webBreak => { l with webBreak := l.webBreak ||| n.bit }
  | .grantReached => { l with grantReached := l.grantReached ||| n.bit }
  | .withdrawn => { l with withdrawn := l.withdrawn ||| n.bit }
  | .bandLeadTimeout => { l with bandLeadTimeout := l.bandLeadTimeout ||| n.bit }
  | .hotWeb => { l with hotWeb := l.hotWeb ||| n.bit }
  | .overspeed => { l with overspeed := l.overspeed ||| n.bit }
  | .zoneOvertemp => { l with zoneOvertemp := l.zoneOvertemp ||| n.bit }
  | .readingStale => { l with readingStale := l.readingStale ||| n.bit }
  | _ => l

/-- A cause latched for a lane. -/
def Attention.latchLane (a : Attention) (c : Cause) (n : LaneId) : Attention :=
  { a.latch c with sets := a.sets.add c n }

/-- The attention unit tells the break unit of the continuous condition (R120, R122): it is true while SAFE_HOLD or
FLOW_LOST is latched, and while it is true no cadence runs. -/
def State.tellHorn (s : State) : State :=
  let on := s.attention.isLatched .safeHold || s.attention.isLatched .flowLost
  { s with horn := ⟨if on then none else s.horn.cadence, on⟩ }

/-- A cause without a lane set latched (R137); SAFE_HOLD and FLOW_LOST move the horn's continuous condition. -/
def State.latch (s : State) (c : Cause) : State :=
  let s' := { s with attention := s.attention.latch c }
  if c = .safeHold ∨ c = .flowLost then s'.tellHorn else s'

/-- A cause latched for a lane (R137). -/
def State.latchLane (s : State) (c : Cause) (n : LaneId) : State :=
  { s with attention := s.attention.latchLane c n }

/-- The horn's break cadence started or restarted, unless the continuous condition holds (R121). -/
def State.startCadence (s : State) : State :=
  if s.horn.continuous then s else { s with horn := { s.horn with cadence := some ⟨true, 1, 500⟩ } }

/-! ## Break inputs -/

/-- The record of a break input. -/
def State.breakInput (s : State) (n : LaneId) : BreakInput := s.breaks.get n

/-- The record of a break input written. -/
def State.setBreakInput (s : State) (n : LaneId) (b : BreakInput) : State := { s with breaks := s.breaks.set n b }

/-- A break input is at its active level: its level is the one the lane's polarity names (R111). -/
def State.inputActive (s : State) (n : LaneId) : Bool := (s.breakInput n).level == s.cal.values.activeHigh.get n

/-! ## Edges -/

/-- A window count one higher, saturating at 65535 (R61, R84). -/
def countUp (n : Nat) : Nat := min 65535 (n + 1)

/-- An edge `gapUs` after the edge before it, where the last counted edge lay `since` µs before that one: the new count
and the µs since the last counted edge. An edge closer than 7 µs to the last counted edge is not counted (R61, R84). -/
def countEdge (count since gapUs : Nat) : Nat × Nat :=
  let t := min 7 (since + gapUs)
  if 7 ≤ t then (countUp count, 0) else (count, t)

/-! ## Outcomes -/

/-- What an event does to the part while it has its supply. Without supply nothing happens (R146). -/
def State.whenPowered (s : State) (f : State → State) : Host.Outcome State Fault Refusal :=
  .next (if s.powered then f s else s)

end Sys2Proof.Machine
end

