-- ==== Sys2Proof/Machine/Loads.lean ====
section
/-! DEFINITION. The load computer (chapter 2): loads, limit, capacity, fan demand, concentration, budget, fitting
speed, and PKRD. -/

namespace Sys2Proof.Machine

/-! ## Loads -/

/-- The areal load S of a profile in mg/m² (R24). -/
def ProfileFields.arealLoad (f : ProfileFields) : Nat :=
  (f.couples.map fun c => c.coverage * c.rate).sum / 100

/-- The load of a profile at a counted speed, in g/min (R26). -/
def ProfileFields.loadAt (f : ProfileFields) (u : Nat) : Nat := ceilDiv (f.arealLoad * f.width * u) 1000000

/-- The load of a lane at a counted speed. An unbound lane has no profile and brings nothing. -/
def State.loadAt (s : State) (n : LaneId) (u : Nat) : Nat := ((s.profileOf n).map (·.loadAt u)).getD 0

/-- The counted speed u of a lane in the states that use one (R25). -/
def Lane.countedSpeed (l : Lane) : Nat :=
  if l.state.moving then (if l.overspeed then l.measured else l.g) else 0

/-- The lane load F (R26): the residual load in BREAK and in SUSPENDED while the hold runs, else S times width times
counted speed. -/
def State.laneLoad (s : State) (n : LaneId) : Nat :=
  let l := s.lane n
  match l.state with
  | .broke => l.residual.getD 0
  | .suspended => l.residual.getD 0
  | .unthreaded => 0
  | .broken => 0
  | _ => s.loadAt n l.countedSpeed

/-- The sum over the four lanes. -/
def sumLanes (f : LaneId → Nat) : Nat := f .one + f .two + f .three + f .four

/-- The total load F_T (R27). -/
def State.totalLoad (s : State) : Nat := sumLanes s.laneLoad

/-- The forecast of one lane: a queued lane at its pending target (R32). -/
def State.forecastOf (s : State) (n : LaneId) : Nat :=
  if s.arbiter.queue.contains n then
    match (s.lane n).target with
    | some t => s.loadAt n t
    | none => s.laneLoad n
  else s.laneLoad n

/-- The forecast load (R32). -/
def State.forecastLoad (s : State) : Nat := sumLanes s.forecastOf

/-! ## Limit, capacity, required flow, fan demand -/

/-- The active limit as the calibration and the ANALYZER channel's freshness make it (R29). -/
def State.formLimit (s : State) : Nat :=
  if s.cal.values.analyzerFitted && (s.reading .analyzer).fresh then s.cal.values.monitoredLimit
  else s.cal.values.normalLimit

/-- The active limit re-formed (R29). -/
def State.reformLimit (s : State) : State := { s with load := { s.load with activeLimit := s.formLimit } }

/-- The capacity load F_cap (R30). -/
def State.capacity (s : State) : Nat := s.exhaust.qMeas * s.cal.values.cl * s.load.activeLimit / 100

/-- The required flow for a load (R31). -/
def State.requiredFlow (s : State) (load : Nat) : Nat :=
  ceilDiv (load * 100) (s.cal.values.cl * s.load.activeLimit)

/-- The fan demand D as the dryer state makes it (R33). -/
def State.formDemand (s : State) : Nat :=
  let c := s.cal.values
  match s.dryer.state with
  | .off => 0
  | .purge => c.qPurge
  | .heating => min c.qMax (max c.qMin (ceilDiv (s.requiredFlow s.forecastLoad * (100 + c.margin)) 100))
  | .cooldown => c.qMin
  | .safeHold => c.qMax

/-- The fan-demand duty of a demand (R34). -/
def State.fanDuty (s : State) (d : Nat) : Nat := d * 1023 / s.cal.values.qMax

/-! ## Concentration -/

/-- The estimated concentration E (R35). -/
def State.formEstimate (s : State) : Nat :=
  if s.totalLoad = 0 then 0
  else if s.exhaust.qMeas = 0 then 999
  else min 999 (ceilDiv (s.totalLoad * 100) (s.cal.values.cl * s.exhaust.qMeas))

/-- E formed and held, and the peak record raised to it if it is greater (R35, R36). -/
def State.holdEstimate (s : State) : State :=
  let e := s.formEstimate
  { s with load := { s.load with estimated := e, peak := max s.load.peak e } }

/-! ## Budget and largest fitting speed -/

/-- Rounded down to a multiple of 5. -/
def floor5 (v : Nat) : Nat := v / 5 * 5

/-- The budget B of a lane under a capacity load (R38). -/
def State.budget (s : State) (capacity : Nat) (n : LaneId) : Int :=
  (capacity : Int) - ((s.totalLoad : Int) - (s.laneLoad n : Int))

/-- The largest fitting speed of a profile for a budget (R39). -/
def ProfileFields.fittingSpeed (f : ProfileFields) (budget : Int) : Option Nat :=
  if budget ≤ 0 then none
  else if f.arealLoad = 0 then some (maxSpeed f.bands)
  else some (floor5 (budget.toNat * 1000000 / (f.arealLoad * f.width)))

/-- The largest fitting speed of a lane under a capacity load. -/
def State.fittingSpeed (s : State) (capacity : Nat) (n : LaneId) : Option Nat :=
  (s.profileOf n).bind fun p => p.fittingSpeed (s.budget capacity n)

/-! ## PKRD -/

/-- PKRD as its owner takes it (R37). -/
def takePkrd (body : List Byte) (s : State) : State × Reply :=
  match body with
  | [flag] =>
    let r : Reply := .done (be2 s.load.peak ++ be2 s.load.estimated)
    if flag = 0 then (s, r)
    else if flag = 1 then ({ s with load := { s.load with peak := 0 } }, r)
    else (s, .badField 1)
  | _ => (s, .badLength)

end Sys2Proof.Machine
end

