-- ==== Sys2Proof/Machine/Flags.lean ====
section
/-! DEFINITION. The derived conditions: setpoints and the in-band test, the judgements of the web and the chill water,
the holds, burner permits, the attention line; and the output lines re-formed from them. -/

namespace Sys2Proof.Machine

/-! ## Heat band, setpoints, in-band test -/

/-- The heat band of a lane on a band list: the larger of band(g) and the lead band (R42). -/
def Lane.heatBand (l : Lane) (bands : List Band) : Nat :=
  match l.lead with
  | none => bandOf bands l.g
  | some d => max (bandOf bands l.g) d.band

/-- The air setpoint of a zone in a band (R3). -/
def Band.setpoint (b : Band) : ZoneId → Nat
  | .z1 => b.z1
  | .z2 => b.z2
  | .z3 => b.z3

/-- A zone's setpoint: that of the heat band for a bound lane, the idle setpoint for an unbound one (R104). -/
def State.setpoint (s : State) (n : LaneId) (z : ZoneId) : Nat :=
  match s.profileOf n with
  | some p => (bandAt p.bands ((s.lane n).heatBand p.bands)).setpoint z
  | none => s.cal.values.idleSetpoint

/-- The cut point of a zone (R106): twice the tolerance above the setpoint, or 40 °C above the idle setpoint. -/
def State.cutPoint (s : State) (n : LaneId) (z : ZoneId) : Nat :=
  s.setpoint n z + match s.profileOf n with
    | some p => 2 * p.tolerance
    | none => 40

/-- A fresh channel's value passes a test; a stale or absent one fails it (R103). -/
def Reading.passes (r : Reading) (test : Int → Bool) : Bool :=
  r.fresh && match r.value with
    | some v => test v
    | none => false

/-- A zone of a bound lane is in band (R105). -/
def State.zoneInBand (s : State) (n : LaneId) (tolerance : Nat) (z : ZoneId) : Bool :=
  (s.reading (.zone n z)).passes fun v => (v - (s.setpoint n z : Int)).natAbs ≤ tolerance

/-- Whether all three zones of a bound lane are in band; an unbound lane has no in-band state (R105). -/
def State.zonesInBand (s : State) (n : LaneId) : Option Bool :=
  match (s.lane n).key with
  | none => none
  | some _ =>
    match s.profileOf n with
    | none => some false
    | some p => some (ZoneId.all.all (s.zoneInBand n p.tolerance))

/-! ## The judgements of the web and the chill water (R108) -/

/-- The band the lane is running in, band(g). -/
def State.runningBand (s : State) (n : LaneId) : Band :=
  bandAt (s.bandsOf n) (bandOf (s.bandsOf n) (s.lane n).g)

/-- Underdried: WEB EXIT is stale or below the web exit minimum of band(g). -/
def State.underdried (s : State) (n : LaneId) : Bool :=
  !(s.reading (.webExit n)).passes fun v => ((s.runningBand n).webExitMin : Int) ≤ v

/-- Hot web: CHILL EXIT is stale or above the chill exit maximum of band(g). -/
def State.hotWeb (s : State) (n : LaneId) : Bool :=
  !(s.reading (.chillExit n)).passes fun v => v ≤ ((s.runningBand n).chillExitMax : Int)

/-- Warm chill water: CHILL WATER is stale or above the calibration maximum. -/
def State.warmChillWater (s : State) : Bool :=
  !(s.reading .chillWater).passes fun v => v ≤ (s.cal.values.chillWaterMax : Int)

/-! ## The holds (R67, R68) -/

/-- The lane's lead status is LEADING. -/
def Lane.isLeading (l : Lane) : Bool :=
  match l.lead with
  | some ⟨_, .leading⟩ => true
  | _ => false

/-- NOT_READY (R67). -/
def State.notReady (s : State) (n : LaneId) : Bool :=
  let l := s.lane n
  l.state == .threading ||
    ((l.state == .ready || l.state == .running) && !l.isLeading && l.inBand != some true)

/-- STALE: any of the lane's five channels is stale (R68). -/
def State.anyStale (s : State) (n : LaneId) : Bool :=
  !((s.reading (.zone n .z1)).fresh && (s.reading (.zone n .z2)).fresh && (s.reading (.zone n .z3)).fresh &&
    (s.reading (.webExit n)).fresh && (s.reading (.chillExit n)).fresh)

/-- Whether a lane has an entry in the grant queue (R64). -/
def State.queued (s : State) (n : LaneId) : Bool := s.arbiter.queue.contains n

/-- The holds of a lane in the order of the bits of the hold set (R159): NOT_READY, BAND_LEAD, UNDERDRIED, HOT_WEB,
STALE, CHILL_WATER, OVERSPEED. A lane without an entry has none (R66). -/
def State.holds (s : State) (n : LaneId) : List Bool :=
  if s.queued n then
    [s.notReady n, (s.lane n).isLeading, s.underdried n, s.hotWeb n, s.anyStale n, s.warmChillWater,
     (s.lane n).overspeed]
  else [false, false, false, false, false, false, false]

/-- An entry is held when at least one hold applies (R66). -/
def State.held (s : State) (n : LaneId) : Bool := (s.holds n).any id

/-- A list of flags as a number, the first the low bit. -/
def bitsValue : List Bool → Nat
  | [] => 0
  | b :: bs => (if b then 1 else 0) + 2 * bitsValue bs

/-- A lane's queue position, counted from 1 at the head, or 0 (R64). -/
def queuePosition (n : LaneId) : List LaneId → Nat
  | [] => 0
  | m :: ms => if m = n then 1 else match queuePosition n ms with
    | 0 => 0
    | k + 1 => k + 2

/-! ## Output lines -/

/-- The burner permit of a zone (R107). -/
def State.burnerPermit (s : State) (n : LaneId) (z : ZoneId) : Bool :=
  s.dryer.state == .heating &&
    !((s.lane n).state == .broke || (s.lane n).state == .broken || (s.lane n).state == .suspended) &&
    !((s.cuts.get n).get z)

/-- The attention line: an urgent cause is latched, or an unmasked routine one (R138). -/
def Attention.line (a : Attention) : Bool := (a.latched &&& ~~~(a.mask &&& routineCauses)) != 0

/-- The speed-permit duty of a granted speed (R44). -/
def speedDuty (g : Nat) : Nat := g * 1023 / 1200

/-- The horn line (R120). -/
def Horn.line (h : Horn) : Bool :=
  h.continuous || match h.cadence with
    | some c => c.on
    | none => false

/-- The output lines as the records make them (R145), the fan line from the demand as held. -/
def State.formLines (s : State) : Lines :=
  { speed := PerLane.form fun n => speedDuty (s.lane n).g
    fan := s.fanDuty s.load.fanDemand
    burners := PerLane.form fun n => PerZone.form fun z => s.burnerPermit n z
    horn := s.horn.line
    attention := s.attention.line }

/-- The fan demand set afresh (R33) and every output line re-formed (R145), as at every change of what they are
formed from. -/
def State.reform (s : State) : State :=
  let s' := { s with load := { s.load with fanDemand := s.formDemand } }
  { s' with lines := s'.formLines }

end Sys2Proof.Machine
end

