-- ==== Sys2Proof/Machine/Table.lean ====
section
/-! DEFINITION. The named operations of the profile table: bind, unbind, removal (R10, R11, R12). -/

namespace Sys2Proof.Machine

/-- A record taken out of the table (R12): its slot index is free and its changed mark is set. A mark set while a
commit is in flight was set after the snapshot (R148). -/
def State.removeRecord (s : State) (p : Profile) : State :=
  { s.setMark p.slot with
    profiles := removeProfile s.profiles p.key
    commit := s.commit.map fun c => { c with remarked := c.remarked ||| slotBit p.slot } }

/-- Bind (R10): refuses NOT_FOUND or RETIRING, or raises the bind count and answers the new one. -/
def State.bind (s : State) (key : Nat) : Except Reply (State × Nat) :=
  match findProfile s.profiles key with
  | none => .error .notFound
  | some p =>
    if p.retirePending then .error .retiring
    else
      let p' := { p with bindCount := p.bindCount + 1 }
      .ok ({ s with profiles := replaceProfile s.profiles p' }, p'.bindCount)

/-- Unbind (R11): lowers the bind count; a RETIRE_PENDING record whose count reaches 0 is removed and PROFILE_RETIRED is
latched. Answers the remaining count and whether the record was removed. -/
def State.unbind (s : State) (key : Nat) : State × Nat × Bool :=
  match findProfile s.profiles key with
  | none => (s, 0, false)
  | some p =>
    let p' := { p with bindCount := p.bindCount - 1 }
    if p'.retirePending ∧ p'.bindCount = 0 then ((s.removeRecord p).latch .profileRetired, 0, true)
    else ({ s with profiles := replaceProfile s.profiles p' }, p'.bindCount, false)

end Sys2Proof.Machine
end

