-- ==== Sys2Proof/Machine/LaneOps.lean ====
section
/-! DEFINITION. The named operations of the lane unit: the THREADING and READY transitions, the removal of a pending
target, decrease, raise, break, suspension, resumption, the clamp after a trim (chapter 3). -/

namespace Sys2Proof.Machine

/-! ## In-band state and what follows from it -/

/-- A lane record under a new in-band state (R47, R79, R105): THREADING in band becomes READY, READY out of band becomes
THREADING, and a LEADING lead in band becomes LED. -/
def Lane.judged (l : Lane) (inBand : Option Bool) : Lane :=
  let l := { l with inBand := inBand }
  match inBand with
  | some true =>
    { l with
      state := if l.state = .threading then .ready else l.state
      lead := l.lead.map fun d => { d with status := .led } }
  | some false => { l with state := if l.state = .ready then .threading else l.state }
  | none => l

/-- The zone supervisor re-forms a lane's in-band state, and the lane unit and the arbiter act on it (R105, R47,
R79). -/
def State.settle (s : State) (n : LaneId) : State := s.modLane n fun l => l.judged (s.zonesInBand n)

/-- Every lane's in-band state re-formed. -/
def State.settleAll (s : State) : State := LaneId.all.foldl State.settle s

/-! ## Targets and granted speed -/

/-- The pending target, the queue entry and the lead band of a lane cleared together (R50). -/
def State.removeTarget (s : State) (n : LaneId) : State :=
  { s.modLane n fun l => { l.clearLead with target := none } with
    arbiter := { s.arbiter with queue := s.arbiter.queue.filter (· != n) } }

/-- The full decel grace in ms (R49). -/
def State.graceMs (s : State) : Nat := s.cal.values.decelGrace * 1000

/-- A lane record under a decrease of g (R49). -/
def Lane.decreased (l : Lane) (g crawl graceMs : Nat) : Lane :=
  let d : Lane := { l.clearLead with g := g, graceMs := graceMs }
  if d.state = .running ∧ g ≤ crawl then { d.leaveRunning with state := .ready } else d

/-- A decrease of a lane's granted speed (R49). The setpoints follow the new band at once (R104). -/
def State.decrease (s : State) (n : LaneId) (g : Nat) : State :=
  (s.modLane n fun l => l.decreased g s.cal.values.crawl s.graceMs).settle n

/-- A lane record with its lead cleared where its band(g) has reached the lead band (R81). -/
def Lane.leadReached (l : Lane) (bands : List Band) : Lane :=
  match l.lead with
  | some d => if d.band ≤ bandOf bands l.g then l.clearLead else l
  | none => l

/-- A lane record under a raise (R48, R81): the new speed and stamp; a READY lane above crawl enters RUNNING. -/
def Lane.raised (l : Lane) (g crawl : Nat) (stamp : BitVec 16) (bands : List Band) : Lane :=
  let state : LaneState := if l.state = .ready ∧ crawl < g then .running else l.state
  Lane.leadReached { l with g := g, stamp := stamp, state := state } bands

/-- A raise by the grant arbiter (R48, R65): the stamp counter steps, and the lane takes the new speed and the
counter's new value. -/
def State.raise (s : State) (n : LaneId) (g : Nat) : State :=
  let stamp := s.arbiter.stamp + 1
  (({ s with arbiter := { s.arbiter with stamp := stamp } }).modLane n fun l =>
    l.raised g s.cal.values.crawl stamp (s.bandsOf n)).settle n

/-! ## Breaks, suspension, resumption -/

/-- The length of a residual hold in ms: the profile's override, or the calibration residual hold (R54). -/
def State.holdMs (s : State) (n : LaneId) : Nat :=
  (((s.profileOf n).bind (·.override)).getD s.cal.values.residualHold) * 1000

/-- A lane record that starts a residual hold and stands still (R54, R58). -/
def Lane.stopped (l : Lane) (state : LaneState) (load holdMs graceMs : Nat) : Lane :=
  { l.leaveRunning.clearLead.unjudged with
    state := state, g := 0, target := none, residual := some load, residualMs := holdMs, graceMs := graceMs }

/-- A lane stopped with a residual load formed from the lane as it stood before (R28); its queue entry leaves. -/
def State.stopLane (s : State) (n : LaneId) (state : LaneState) (graceMs : Nat) : State :=
  let load := s.laneLoad n
  let hold := s.holdMs n
  ((s.removeTarget n).modLane n fun l => l.stopped state load hold graceMs).settle n

/-- A confirmed break on a lane (R54, R114): in THREADING, READY and RUNNING the lane enters BREAK, BREAK is latched for
it and the horn's cadence starts; in the other states nothing changes. -/
def State.breakLane (s : State) (n : LaneId) : State :=
  if (s.lane n).state.moving then
    ((s.stopLane n .broke s.graceMs).latchLane .webBreak n).startCadence
  else s

/-- A lane suspended (R58): decel grace starts if g was above 0. -/
def State.suspend (s : State) (n : LaneId) : State :=
  s.stopLane n .suspended (if 0 < (s.lane n).g then s.graceMs else (s.lane n).graceMs)

/-- Every lane suspended whose state the test names (R58). -/
def State.suspendWhere (s : State) (test : LaneState → Bool) : State :=
  LaneId.all.foldl (fun t n => if test (t.lane n).state then t.suspend n else t) s

/-- The confirmation timer of a lane that enters THREADING with its input at its active level and its timer idle
starts at the full confirmation time (R114). -/
def State.checkInput (s : State) (n : LaneId) : State :=
  let b := s.breakInput n
  if s.inputActive n ∧ b.timer = none then s.setBreakInput n { b with timer := some s.cal.values.confirmMs } else s

/-- A SUSPENDED lane returned to THREADING (R59); its residual hold ends. -/
def State.resume (s : State) (n : LaneId) : State :=
  if (s.lane n).state = .suspended then
    ((s.modLane n fun l => { l with state := .threading, residual := none, residualMs := 0 }).checkInput n).settle n
  else s

/-- Every SUSPENDED lane returned to THREADING (R59). -/
def State.resumeAll (s : State) : State := LaneId.all.foldl State.resume s

/-! ## Trims to a bound profile -/

/-- g lowered to the new profile maximum, if it is above it (R60). -/
def State.clampSpeed (s : State) (n : LaneId) (max : Nat) : State :=
  if max < (s.lane n).g then s.decrease n max else s

/-- The pending target lowered to the new profile maximum, or cleared if that leaves it at or below g (R60). -/
def State.clampTarget (s : State) (n : LaneId) (max : Nat) : State :=
  match (s.lane n).target with
  | some t =>
    if max < t then
      if max ≤ (s.lane n).g then s.removeTarget n else s.modLane n fun l => { l with target := some max }
    else s
  | none => s

/-- The lead band cleared where a trim leaves the target within band(g) or band(g) at or past the lead band (R60). -/
def State.clampLead (s : State) (n : LaneId) (bands : List Band) : State :=
  let l := s.lane n
  match l.lead, l.target with
  | some d, some t =>
    if t ≤ boundOf bands l.g ∨ d.band ≤ bandOf bands l.g then s.modLane n Lane.clearLead else s
  | _, _ => s

/-- What the lane unit does to one lane bound to a trimmed profile (R60). -/
def State.trimLane (s : State) (bands : List Band) (n : LaneId) : State :=
  (((s.clampSpeed n (maxSpeed bands)).clampTarget n (maxSpeed bands)).clampLead n bands).settle n

/-- What the lane unit does when a trim of a profile is accepted (R60). -/
def State.trimLanes (s : State) (key : Nat) (bands : List Band) : State :=
  LaneId.all.foldl (fun t n => if (t.lane n).key = some key then t.trimLane bands n else t) s

end Sys2Proof.Machine
end

