-- ==== Sys2Proof/Machine/Dryer.lean ====
section
/-! DEFINITION. The dryer sequencer and the exhaust unit (chapter 5): state changes, SAFE_HOLD, purge, cooldown, flow
windows; DSTART, DSTOP, DSTAT, FLOW_PULSE, FLOW_WINDOW, PURGE_FAILED, COOLDOWN_TIMEOUT. -/

namespace Sys2Proof.Machine

/-! ## State changes -/

/-- The dryer state changed; the exhaust unit sets its zero-window run to 0 (R83, R85). -/
def State.enterDryer (s : State) (d : DryerState) : State :=
  { s with dryer := { s.dryer with state := d }, exhaust := { s.exhaust with zeroRun := 0 } }

/-- SAFE_HOLD entered for a cause (R94). -/
def State.enterSafeHold (s : State) (c : HoldCause) : State :=
  let t := (s.enterDryer .safeHold).latch .safeHold
  { t with dryer := { t.dryer with lastCause := some c } }.suspendWhere LaneState.moving

/-- A SAFE_HOLD request (R93, R94, R95): taken in PURGE and HEATING, it sends the dryer to SAFE_HOLD; in the other
states it changes nothing. -/
def State.requestSafeHold (s : State) (c : HoldCause) : State :=
  if s.dryer.state = .purge ∨ s.dryer.state = .heating then s.enterSafeHold c else s

/-- The lane states that COOLDOWN and a failed purge suspend (R58). -/
def LaneState.threadingOrReady (l : LaneState) : Bool := l == .threading || l == .ready

/-- HEATING entered at the end of a purge (R88): suspended lanes return to THREADING. -/
def State.enterHeating (s : State) : State := (s.enterDryer .heating).resumeAll

/-- The housing is cool: every zone channel is fresh and at or below the cooldown temperature (R92). -/
def State.housingCool (s : State) : Bool :=
  LaneId.all.all fun n => ZoneId.all.all fun z =>
    (s.reading (.zone n z)).passes fun v => v ≤ (s.cal.values.cooldownTemp : Int)

/-- COOLDOWN ends: the dryer enters OFF and COOLDOWN_DONE is latched (R92). -/
def State.endCooldown (s : State) : State := (s.enterDryer .off).latch .cooldownDone

/-- The cooldown test, where the dryer is in COOLDOWN (R92). -/
def State.testCool (s : State) : State :=
  if s.dryer.state = .cooldown ∧ s.housingCool then s.endCooldown else s

/-- COOLDOWN entered (R91): the cooldown timer starts, THREADING and READY lanes are suspended, and the test is made
at once. -/
def State.enterCooldown (s : State) : State :=
  let t := s.enterDryer .cooldown
  ({ t with dryer := { t.dryer with cooldownMs := 0 } }.suspendWhere LaneState.threadingOrReady).testCool

/-! ## Purge figures -/

/-- The purge target in pulses (R86). -/
def State.purgeTarget (s : State) : Nat := 4 * s.cal.values.volume * s.cal.values.pulsesPerM3

/-- The purge floor (R87). -/
def State.purgeFloor (s : State) : Nat := s.cal.values.qPurge * 3 / 4

/-! ## Requests -/

/-- DSTART as its owner takes it (R86). -/
def takeDstart (body : List Byte) (s : State) : State × Reply :=
  match body with
  | [] =>
    if s.dryer.state = .off ∨ s.dryer.state = .safeHold then
      if s.cal.valid then
        let t := s.enterDryer .purge
        let t := { t with dryer := { t.dryer with purgeMs := 0 }, exhaust := { t.exhaust with accumulator := 0 } }
        (t.reform, .done (be3 s.purgeTarget))
      else (s, .calInvalid)
    else (s, .wrongState)
  | _ => (s, .badLength)

/-- Whether any lane is RUNNING. -/
def State.anyRunning (s : State) : Bool := LaneId.all.any fun n => (s.lane n).state == .running

/-- DSTOP as its owner takes it (R91). -/
def takeDstop (body : List Byte) (s : State) : State × Reply :=
  match body with
  | [] =>
    match s.dryer.state with
    | .off => (s, .done [s.dryer.state.code])
    | .cooldown => (s, .done [s.dryer.state.code])
    | .heating =>
      if s.anyRunning then (s, .lanesRunning)
      else (s.enterCooldown.reform, .done [s.enterCooldown.dryer.state.code])
    | .purge => (s.enterCooldown.reform, .done [s.enterCooldown.dryer.state.code])
    | .safeHold => (s.enterCooldown.reform, .done [s.enterCooldown.dryer.state.code])
  | _ => (s, .badLength)

/-- The DSTAT answer (R97, R160). -/
def State.dryerBytes (s : State) : List Byte :=
  [s.dryer.state.code, HoldCause.code s.dryer.lastCause] ++
  be3 s.exhaust.accumulator ++ be3 s.purgeTarget ++
  be2 (s.dryer.purgeMs / 1000) ++ be2 (s.dryer.cooldownMs / 1000) ++
  be2 s.exhaust.history.oldest ++ be2 s.exhaust.history.older ++ be2 s.exhaust.history.newer ++
  be2 s.exhaust.history.newest ++
  be3 s.exhaust.qMeas ++ be2 s.load.fanDemand ++ [byteOf s.load.activeLimit] ++
  be3 s.totalLoad ++ be4 s.capacity ++ be2 s.load.estimated

/-- DSTAT as its owner takes it (R97). -/
def takeDstat (body : List Byte) (s : State) : State × Reply :=
  match body with
  | [] => (s, .done s.dryerBytes)
  | _ => (s, .badLength)

/-! ## Flow windows -/

/-- The measured flow of a history (R84). -/
def FlowHistory.flow (h : FlowHistory) (pulsesPerM3 : Nat) : Nat :=
  (h.oldest + h.older + h.newer + h.newest) * 30 / pulsesPerM3

/-- A window's count joins the history and Q_meas is formed (R84). -/
def State.formFlow (s : State) : State :=
  let h : FlowHistory := ⟨s.exhaust.history.older, s.exhaust.history.newer, s.exhaust.history.newest, s.exhaust.count⟩
  { s with exhaust := { s.exhaust with
      history := h, qMeas := h.flow s.cal.values.pulsesPerM3, count := 0, windowMs := 0 } }

/-- The purge accumulator at a window completion in PURGE, before the zero-window run is judged (R87): below the floor
after 10 s it is set to 0, otherwise the window's count is added. -/
def State.accumulate (s : State) (count : Nat) : State :=
  let acc := if 10000 < s.dryer.purgeMs ∧ s.exhaust.qMeas < s.purgeFloor then 0 else s.exhaust.accumulator + count
  { s with exhaust := { s.exhaust with accumulator := acc } }

/-- The zero-window run judged (R85): the new run, and whether the flow is lost. -/
def judgeRun (run count : Nat) : Nat × Bool :=
  if 0 < count then (0, false) else if 3 ≤ run then (0, true) else (run + 1, false)

/-- The zero-window run judged against a window's count (R85): the run written, and FLOW_LOST latched where the flow
is lost. -/
def State.judgeFlow (s : State) (count : Nat) : State × Bool :=
  let r := judgeRun s.exhaust.zeroRun count
  let t : State := { s with exhaust := { s.exhaust with zeroRun := r.1 } }
  (if r.2 then t.latch .flowLost else t, r.2)

/-- A window completion in HEATING (R85): a lost flow makes a SAFE_HOLD request. -/
def State.flowInHeating (s : State) (count : Nat) : State :=
  let r := s.judgeFlow count
  if r.2 then r.1.requestSafeHold .flowLost else r.1

/-- The purge accumulator set to 0 (R85). -/
def State.clearAccumulator (s : State) : State := { s with exhaust := { s.exhaust with accumulator := 0 } }

/-- A window completion in PURGE (R87, R88): the accumulator, the zero-window run, and the end of the purge. -/
def State.flowInPurge (s : State) (count : Nat) : State :=
  let r := (s.accumulate count).judgeFlow count
  let t := if r.2 then r.1.clearAccumulator else r.1
  if t.purgeTarget ≤ t.exhaust.accumulator then t.enterHeating else t

/-- A flow window completes (R84, R85, R87, R88). -/
def State.flowWindow (s : State) : State :=
  match s.dryer.state with
  | .heating => s.formFlow.flowInHeating s.exhaust.count
  | .purge => s.formFlow.flowInPurge s.exhaust.count
  | _ => s.formFlow

/-! ## Events -/

/-- FLOW_PULSE (R84). -/
def execFlowPulse (gapUs : Nat) (s : State) : Host.Outcome State Fault Refusal :=
  s.whenPowered fun s =>
    let (count, since) := countEdge s.exhaust.count s.exhaust.sinceUs gapUs
    { s with exhaust := { s.exhaust with count := count, sinceUs := since } }

/-- FLOW_WINDOW (R84). -/
def execFlowWindow (s : State) : Host.Outcome State Fault Refusal :=
  s.whenPowered fun s => s.flowWindow.reform

/-- PURGE_FAILED (R89): in PURGE, the purge timer reaches 600 s. -/
def execPurgeFailed (s : State) : Host.Outcome State Fault Refusal :=
  s.whenPowered fun s =>
    if s.dryer.state = .purge then
      let t := (s.enterDryer .off).latch .purgeFailed
      ({ t with dryer := { t.dryer with purgeMs := 600000 } }.suspendWhere LaneState.threadingOrReady).reform
    else s

/-- COOLDOWN_TIMEOUT (R92): in COOLDOWN, the cooldown timer reaches 1800 s. -/
def execCooldownTimeout (s : State) : Host.Outcome State Fault Refusal :=
  s.whenPowered fun s =>
    if s.dryer.state = .cooldown then
      { s.endCooldown with dryer := { s.endCooldown.dryer with cooldownMs := 1800000 } }.reform
    else s

end Sys2Proof.Machine
end

