-- ==== Sys2Proof/Machine/Grants.lean ====
section
/-! DEFINITION. The grant arbiter (chapter 4): the evaluation with its five stages, EVALUATION and
BAND_LEAD_TIMEOUT. -/

namespace Sys2Proof.Machine

/-! ## Choosing a lane to lower (R65) -/

/-- A lane stands before another for withdrawal: the higher stamp, or the higher number where the stamps are equal. -/
def State.before (s : State) (n m : LaneId) : Bool :=
  (s.lane m).stamp.toNat < (s.lane n).stamp.toNat ||
    ((s.lane m).stamp == (s.lane n).stamp && m.number < n.number)

/-- A lane put at its place in that order. -/
def State.insertByStamp (s : State) (n : LaneId) : List LaneId → List LaneId
  | [] => [n]
  | m :: ms => if s.before n m then n :: m :: ms else m :: s.insertByStamp n ms

/-- The RUNNING lanes, the highest stamp first. -/
def State.runningByStamp (s : State) : List LaneId :=
  (LaneId.all.filter fun n => (s.lane n).state == .running).foldr s.insertByStamp []

/-- A lane lowered by the arbiter with WITHDRAWN latched for it (R71, R72, R74). -/
def State.withdrawTo (s : State) (n : LaneId) (g : Nat) : State := (s.decrease n g).latchLane .withdrawn n

/-! ## Withdrawal (R71, R72) -/

/-- The speed to which withdrawal takes a lane: the larger of crawl and its fitting speed, never above its g. -/
def State.withdrawSpeed (s : State) (capacity : Nat) (n : LaneId) : Nat :=
  min (s.lane n).g (max s.cal.values.crawl ((s.fittingSpeed capacity n).getD 0))

/-- The withdrawal stage over the lanes that were RUNNING at its start; the lanes it lowered are put before those
already listed. -/
def State.withdraw (capacity : Nat) : List LaneId → State × List LaneId → State × List LaneId
  | [], r => r
  | n :: ns, (s, lowered) =>
    if s.totalLoad ≤ capacity then (s, lowered)
    else
      let g := s.withdrawSpeed capacity n
      if g < (s.lane n).g then State.withdraw capacity ns (s.withdrawTo n g, n :: lowered)
      else State.withdraw capacity ns (s, lowered)

/-- The second lowering and the SAFE_HOLD request (R72). -/
def State.overload (s : State) : State :=
  (LaneId.all.foldl
    (fun t n => if (t.lane n).state = .running then t.withdrawTo n t.cal.values.crawl else t) s).requestSafeHold
    .overload

/-! ## The analyzer step and the hot-web steps (R74, R75) -/

/-- One ramp step below a speed, not below crawl. -/
def State.stepDown (s : State) (g : Nat) : Nat := max s.cal.values.crawl (g - s.cal.values.rampStep)

/-- The analyzer step (R74). DEDUCED: it goes by the count alone (assumption 22). -/
def State.analyzerStep (r : State × List LaneId) : State × List LaneId :=
  let (s, lowered) := r
  if s.arbiter.excess = 2 then
    let s := { s with arbiter := { s.arbiter with excess := 0 } }
    match s.runningByStamp with
    | n :: _ => (s.withdrawTo n (s.stepDown (s.lane n).g), n :: lowered)
    | [] => (s, lowered)
  else r

/-- The hot-web count of a RUNNING lane after an evaluation examines it (R75). -/
def State.hotWebCount (s : State) (n : LaneId) : Nat :=
  let r := s.reading (.chillExit n)
  if r.fresh then
    if r.passes fun v => ((s.runningBand n).chillExitMax : Int) + 5 < v then (s.lane n).hotWeb + 1 else 0
  else (s.lane n).hotWeb

/-- The hot-web step of one lane (R75). -/
def State.hotWebStep (r : State × List LaneId) (n : LaneId) : State × List LaneId :=
  let (s, lowered) := r
  if (s.lane n).state = .running then
    let k := s.hotWebCount n
    if 10 ≤ k then
      let t := s.modLane n fun l => { l with hotWeb := 0 }
      ((t.decrease n (t.stepDown (t.lane n).g)).latchLane .hotWeb n, n :: lowered)
    else (s.modLane n fun l => { l with hotWeb := k }, lowered)
  else r

/-! ## Service (R76, R77, R78) -/

/-- The candidate speed of a lane (R76): the least of its pending target, g plus the ramp step, the bound of its heat
band, and its fitting speed. -/
def State.candidate (s : State) (n : LaneId) (target fit : Nat) : Nat :=
  let l := s.lane n
  let bands := s.bandsOf n
  min target (min (l.g + s.cal.values.rampStep) (min (bandAt bands (l.heatBand bands)).bound fit))

/-- A band lead begun (R78); the lead is LED at once where the zones are already in band (R79). -/
def State.beginLead (s : State) (n : LaneId) : State :=
  let band := bandOf (s.bandsOf n) (s.lane n).g + 1
  (s.modLane n fun l => { l with lead := some ⟨band, .leading⟩, leadMs := 0 }).settle n

/-- A raise that reaches the pending target removes the entry and latches GRANT_REACHED (R77). -/
def State.raiseToward (s : State) (n : LaneId) (g target : Nat) : State :=
  let t := s.raise n g
  if g = target then ((t.removeTarget n).settle n).latchLane .grantReached n else t

/-- One entry served: raised, given a band lead, or left (R76, R78). -/
def State.serveLane (s : State) (capacity : Nat) (n : LaneId) : State :=
  match (s.lane n).target, s.fittingSpeed capacity n with
  | some target, some fit =>
    let l := s.lane n
    let v := s.candidate n target fit
    if l.g < v then s.raiseToward n v target
    else if v = l.g ∧ l.lead = none ∧ l.g = boundOf (s.bandsOf n) l.g ∧ l.g < target then s.beginLead n
    else s
  | _, _ => s

/-- The walk of the grant queue from head to tail; held entries and lanes lowered in this evaluation are passed
over (R76). -/
def State.serve (capacity : Nat) (lowered : List LaneId) : List LaneId → State → State
  | [], s => s
  | n :: ns, s =>
    State.serve capacity lowered ns (if s.held n || lowered.contains n then s else s.serveLane capacity n)

/-- The service stage, run only where the load fits (R76). -/
def State.serviceStage (capacity : Nat) (r : State × List LaneId) : State :=
  if r.1.totalLoad ≤ capacity then State.serve capacity r.2 r.1.arbiter.queue r.1 else r.1

/-! ## The evaluation (R69, R70) -/

/-- One evaluation: capacity, withdrawal, analyzer step, hot-web steps, service. -/
def State.evaluate (s : State) : State :=
  let s := s.holdEstimate
  let capacity := s.capacity
  let r := State.withdraw capacity s.runningByStamp (s, [])
  if capacity < r.1.totalLoad then r.1.overload
  else State.serviceStage capacity (LaneId.all.foldl State.hotWebStep (State.analyzerStep r))

/-- EVALUATION (R69): the evaluation period expires; in HEATING one evaluation runs. -/
def execEvaluation (s : State) : Host.Outcome State Fault Refusal :=
  s.whenPowered fun s =>
    let t := { s with arbiter := { s.arbiter with evalMs := 0 } }
    if t.dryer.state = .heating then t.evaluate.reform else t

/-- BAND_LEAD_TIMEOUT (R80): the lead timer of a LEADING lane reaches the band lead timeout; once for each lead. -/
def execBandLeadTimeout (n : LaneId) (s : State) : Host.Outcome State Fault Refusal :=
  s.whenPowered fun s =>
    let limit := s.cal.values.leadTimeout * 1000
    if (s.lane n).isLeading ∧ (s.lane n).leadMs < limit then
      ((s.modLane n fun l => { l with leadMs := limit }).latchLane .bandLeadTimeout n).reform
    else s

end Sys2Proof.Machine
end

