-- ==== Sys2Proof/Machine/Readings.lean ====
section
/-! DEFINITION. The reading table and the zone supervisor's cut test (chapter 6): RDG and READING_STALE. -/

namespace Sys2Proof.Machine

/-! ## Overtemperature cuts -/

/-- The cut flag of a zone written. -/
def State.setCut (s : State) (n : LaneId) (z : ZoneId) (v : Bool) : State :=
  { s with cuts := s.cuts.set n ((s.cuts.get n).set z v) }

/-- The cut test of a zone against a taken value (R106). -/
def State.cutTest (s : State) (n : LaneId) (z : ZoneId) (v : Int) : State :=
  if (s.cuts.get n).get z then
    if v ≤ (s.setpoint n z : Int) then s.setCut n z false else s
  else if (s.cutPoint n z : Int) < v then (s.setCut n z true).latchLane .zoneOvertemp n
  else s

/-! ## Readings taken (R101) -/

/-- One value taken: clamped, fresh, of age 0. -/
def State.takeValue (s : State) (p : Channel × Int) : State :=
  s.setReading p.1 ⟨some (p.1.clamp p.2), true, 0⟩

/-- What the zone supervisor does with one taken pair: the cut test of a zone. -/
def State.judgeCut (s : State) (p : Channel × Int) : State :=
  match p.1 with
  | .zone n z => s.cutTest n z (p.1.clamp p.2)
  | _ => s

/-- The in-band state of the lane of one taken pair re-formed, for a zone channel. -/
def State.judgeBand (s : State) (p : Channel × Int) : State :=
  match p.1 with
  | .zone n _ => s.settle n
  | _ => s

/-- The analyzer excess count after a value taken with an analyzer fitted (R73). -/
def State.stepExcess (s : State) (v : Int) : State :=
  let k := if (s.load.activeLimit : Int) < v then min 2 (s.arbiter.excess + 1) else 0
  { s with arbiter := { s.arbiter with excess := k } }

/-- ANALYZER_HIGH latched and a SAFE_HOLD request made for a value at or above 50 %LEL (R93). -/
def State.judgeHigh (s : State) (v : Int) : State :=
  if 50 ≤ v then (s.latch .analyzerHigh).requestSafeHold .analyzerHigh else s

/-- What follows from one taken pair of the ANALYZER channel, where an analyzer is fitted (R73, R93, R109). -/
def State.judgeAnalyzer (s : State) (p : Channel × Int) : State :=
  match p.1 with
  | .analyzer =>
    if s.cal.values.analyzerFitted then (s.stepExcess (p.1.clamp p.2)).judgeHigh (p.1.clamp p.2) else s
  | _ => s

/-- The pairs of one RDG taken together, and handed to the blocks that judge them as the request has left them all
(R101): zone supervisor, load computer, grant arbiter, dryer sequencer. DESIGN CHOICE: the zones are judged before an
ANALYZER value of the same request can take the dryer to SAFE_HOLD and its lanes to SUSPENDED (assumption 30). -/
def State.takeReadings (s : State) (pairs : List (Channel × Int)) : State :=
  let t := pairs.foldl State.takeValue s
  let t := pairs.foldl State.judgeBand (pairs.foldl State.judgeCut t)
  let t := if !(s.reading .analyzer).fresh && (t.reading .analyzer).fresh then t.reformLimit else t
  let t := pairs.foldl State.judgeAnalyzer t
  if pairs.any (fun p => p.1.isZone) then t.testCool else t

/-! ## RDG -/

/-- The channels of the pairs, or the position of the first pair that names an unknown channel or one named before
(R100). -/
def checkPairs : Nat → List Channel → List (Nat × Int) → Except Nat (List (Channel × Int))
  | _, _, [] => .ok []
  | k, seen, (c, v) :: rest =>
    match Channel.ofNumber c with
    | none => .error k
    | some ch =>
      if seen.contains ch then .error k
      else match checkPairs (k + 1) (ch :: seen) rest with
        | .error e => .error e
        | .ok ps => .ok ((ch, v) :: ps)

/-- How many of the pairs had their values clamped (R100). -/
def countClamped (pairs : List (Channel × Int)) : Nat := (pairs.filter fun p => p.1.clamp p.2 != p.2).length

/-- RDG as its owner takes it (R100, R157, R158). -/
def takeRdg (body : List Byte) (s : State) : State × Reply :=
  match body with
  | [] => (s, .badLength)
  | n :: rest =>
    if !within 1 22 n.toNat then (s, .badField 0)
    else if rest.length ≠ 3 * n.toNat then (s, .badLength)
    else match checkPairs 1 [] (readPairs n.toNat rest) with
      | .error k => (s, .badField k)
      | .ok pairs => ((s.takeReadings pairs).reform, .done [n, byteOf (countClamped pairs)])

/-! ## Freshness (R102) -/

/-- READING_STALE latched for a channel: its lane, or the common indication. -/
def State.latchStale (s : State) (c : Channel) : State :=
  match c.lane with
  | some n => s.latchLane .readingStale n
  | none => let t := s.latch .readingStale; { t with attention := { t.attention with staleCommon := true } }

/-- The analyzer excess count set to 0 where an analyzer is fitted (R73, R109), at a CWR by its new value (DESIGN CHOICE,
assumption 31). -/
def State.clearExcess (s : State) : State :=
  if s.cal.values.analyzerFitted then { s with arbiter := { s.arbiter with excess := 0 } } else s

/-- A channel goes stale: its age stops, its value is kept, READING_STALE is latched, and the change is handed on
(R102, R109). -/
def State.goStale (s : State) (c : Channel) : State :=
  let t := (s.setReading c { s.reading c with fresh := false }).latchStale c
  match c with
  | .zone n _ => (t.settle n).testCool
  | .analyzer => t.reformLimit.clearExcess
  | _ => t

/-- The stale age in ms (R102). -/
def State.staleMs (s : State) : Nat := s.cal.values.staleAge * 1000

/-- READING_STALE (R102): the age of a fresh channel reaches the stale age. -/
def execReadingStale (c : Channel) (s : State) : Host.Outcome State Fault Refusal :=
  s.whenPowered fun s =>
    if (s.reading c).fresh then
      ((s.setReading c { s.reading c with ageMs := s.staleMs }).goStale c).reform
    else s

end Sys2Proof.Machine
end

