-- ==== Sys2Proof/Machine/Breaks.lean ====
section
/-! DEFINITION. The break unit (chapter 7): break inputs and their confirmation, LBRK, the horn cadence. -/

namespace Sys2Proof.Machine

/-! ## Break inputs (R112) -/

/-- A break input whose judgement goes from `was` to `now`: reaching the active level starts the timer at the full
confirmation time, leaving it cancels a running one, and no change changes nothing (R112, R113). -/
def BreakInput.judged (b : BreakInput) (was now : Bool) (confirmMs : Nat) : BreakInput :=
  if now && !was then { b with timer := some confirmMs }
  else if was && !now then { b with timer := none }
  else b

/-- The line of a break input at a level (R112). -/
def State.inputLevel (s : State) (n : LaneId) (level : Bool) : State :=
  let t := s.setBreakInput n { s.breakInput n with level := level }
  t.setBreakInput n ((t.breakInput n).judged (s.inputActive n) (t.inputActive n) s.cal.values.confirmMs)

/-- BREAK_INPUT_CHANGE (R112). -/
def execBreakInputChange (n : LaneId) (level : Bool) (s : State) : Host.Outcome State Fault Refusal :=
  s.whenPowered fun s => s.inputLevel n level

/-- CONFIRMED_BREAK (R114): a running confirmation timer expires, becomes idle, and the break is handed to the lane
unit. -/
def execConfirmedBreak (n : LaneId) (s : State) : Host.Outcome State Fault Refusal :=
  s.whenPowered fun s =>
    match (s.breakInput n).timer with
    | some _ => ((s.setBreakInput n { s.breakInput n with timer := none }).breakLane n).reform
    | none => s

/-! ## LBRK -/

/-- The lanes an LBRK names: one, or all four for 0 (R115). -/
def brokenLanes : Nat → Option (List LaneId)
  | 0 => some LaneId.all
  | k => (LaneId.ofNumber k).map fun n => [n]

/-- The lane set of the lanes among these that are in THREADING, READY or RUNNING. -/
def State.movingSet (s : State) (ns : List LaneId) : BitVec 4 :=
  ns.foldl (fun b n => if (s.lane n).state.moving then b ||| n.bit else b) 0

/-- LBRK as its owner takes it, addressed or broadcast (R115, R116): the answer carries the lanes that entered
BREAK. -/
def takeLbrk (body : List Byte) (s : State) : State × Reply :=
  match body with
  | [lane] =>
    match brokenLanes lane.toNat with
    | some ns => ((ns.foldl State.breakLane s).reform, .done [(s.movingSet ns).zeroExtend 8])
    | none => (s, .badField 1)
  | _ => (s, .badLength)

/-! ## The horn cadence (R121) -/

/-- The cadence at the end of a phase. -/
def Cadence.next (c : Cadence) : Option Cadence :=
  if c.on then some ⟨false, c.pulse, 500⟩
  else if c.pulse < 3 then some ⟨true, c.pulse + 1, 500⟩
  else none

/-- CADENCE_PHASE_END (R121): a phase of the running cadence ends. -/
def execCadencePhaseEnd (s : State) : Host.Outcome State Fault Refusal :=
  s.whenPowered fun s =>
    match s.horn.cadence with
    | some c => { s with horn := { s.horn with cadence := c.next } }.reform
    | none => s

end Sys2Proof.Machine
end

