-- ==== Sys2Proof/Machine/Lanes.lean ====
section
/-! DEFINITION. The lane requests and the lane unit's own events (chapter 3): LTHRD, LUNTH, LSPD, LCLR, LSTAT,
ENCODER_EDGE, ENCODER_WINDOW, RESIDUAL_HOLD_EXPIRY, DECEL_GRACE_EXPIRY. -/

namespace Sys2Proof.Machine

/-! ## LTHRD -/

/-- The dryer is in PURGE or HEATING. -/
def State.purgingOrHeating (s : State) : Bool := s.dryer.state == .purge || s.dryer.state == .heating

/-- A lane record that LTHRD accepts (R46). -/
def Lane.threaded (l : Lane) (key : Nat) : Lane :=
  { l.clearLead with
    state := .threading, key := some key, g := 0, target := none, residual := none, residualMs := 0, graceMs := 0 }

/-- A lane threaded with a key that bind has taken: THREADING, its break input checked, its zones judged (R46, R114,
R47). -/
def State.thread (s : State) (n : LaneId) (key : Nat) : State :=
  ((s.modLane n fun l => l.threaded key).checkInput n).settle n

/-- The look-up of LTHRD outside PURGE and HEATING (R46). -/
def State.lookWithoutBinding (s : State) (key : Nat) : Reply :=
  match findProfile s.profiles key with
  | none => .notFound
  | some p => if p.retirePending then .retiring else .notHeating

/-- LTHRD as its owner takes it (R46). -/
def takeLthrd (body : List Byte) (s : State) : State × Reply :=
  match body with
  | [lane, k1, k0] =>
    match LaneId.ofNumber lane.toNat with
    | none => (s, .badField 1)
    | some n =>
      if (s.lane n).state ≠ .unthreaded then (s, .wrongState)
      else if s.purgingOrHeating then
        match s.bind (read2 k1 k0) with
        | .error r => (s, r)
        | .ok (t, count) => ((t.thread n (read2 k1 k0)).reform, .done [byteOf count])
      else (s, s.lookWithoutBinding (read2 k1 k0))
  | _ => (s, .badLength)

/-! ## LUNTH -/

/-- A lane record that LUNTH accepts (R57). -/
def Lane.unthread (l : Lane) (graceMs : Nat) : Lane :=
  { l.leaveRunning.clearLead.unjudged with
    state := .unthreaded, key := none, target := none, g := 0, graceMs := if 0 < l.g then graceMs else l.graceMs }

/-- A lane unthreaded, its profile unbound (R57, R11). -/
def State.unthread (s : State) (n : LaneId) (key : Nat) : State × Nat × Bool :=
  let r := ((s.removeTarget n).modLane n fun l => l.unthread s.graceMs).unbind key
  (r.1.settle n, r.2)

/-- LUNTH as its owner takes it (R57). -/
def takeLunth (body : List Byte) (s : State) : State × Reply :=
  match body with
  | [lane] =>
    match LaneId.ofNumber lane.toNat with
    | none => (s, .badField 1)
    | some n =>
      let l := s.lane n
      if l.state = .unthreaded ∨ l.state = .running then (s, .wrongState)
      else if l.state = .broke ∨ (l.state = .suspended ∧ l.residual.isSome) then (s, .residual)
      else
        let r := s.unthread n (l.key.getD 0)
        (r.1.reform, .done [byteOf r.2.1, flagByte r.2.2])
  | _ => (s, .badLength)

/-! ## LSPD -/

/-- The clamped target: rounded down to a multiple of 5, then lowered to the profile maximum (R51). -/
def State.clampedTarget (s : State) (n : LaneId) (target : Nat) : Nat := min (floor5 target) (maxSpeed (s.bandsOf n))

/-- A clamped target at or below crawl or at or below g, taken at once (R52). -/
def State.takeTargetNow (s : State) (n : LaneId) (t : Nat) : State :=
  if t < (s.lane n).g then (s.decrease n t).removeTarget n
  else if t = (s.lane n).g then s.removeTarget n
  else (s.removeTarget n).modLane n fun l => { l with g := t }

/-- A lane's entry put at the tail of the queue, if it has none (R53). -/
def State.joinQueue (s : State) (n : LaneId) : State :=
  if s.queued n then s else { s with arbiter := { s.arbiter with queue := s.arbiter.queue ++ [n] } }

/-- A clamped target above g and above crawl, recorded and queued (R53). -/
def State.queueTarget (s : State) (n : LaneId) (t : Nat) : State :=
  let bands := s.bandsOf n
  let crawl := s.cal.values.crawl
  (s.modLane n fun l =>
    let m : Lane := { l with g := max l.g crawl, target := some t }
    if t ≤ boundOf bands m.g then m.clearLead else m).joinQueue n

/-- LSPD as its owner takes it (R51, R52, R53). -/
def takeLspd (body : List Byte) (s : State) : State × Reply :=
  match body with
  | [lane, t1, t0] =>
    match LaneId.ofNumber lane.toNat with
    | none => (s, .badField 1)
    | some n =>
      if !(s.lane n).state.moving then (s, .wrongState)
      else if s.dryer.state ≠ .heating then (s, .notHeating)
      else
        let t := s.clampedTarget n (read2 t1 t0)
        let up : Bool := (s.lane n).g < t && s.cal.values.crawl < t
        if up && s.heartbeat.silent then (s, .silent)
        else
          let r := ((if up then s.queueTarget n t else s.takeTargetNow n t).settle n).reform
          (r, .done (be2 (r.lane n).g ++ be2 ((r.lane n).target.getD 0)))
  | _ => (s, .badLength)

/-! ## LCLR -/

/-- LCLR as its owner takes it (R56). -/
def takeLclr (body : List Byte) (s : State) : State × Reply :=
  match body with
  | [lane] =>
    match LaneId.ofNumber lane.toNat with
    | none => (s, .badField 1)
    | some n =>
      match (s.lane n).state with
      | .broke => (s, .residual)
      | .broken =>
        if s.inputActive n then (s, .inputActive)
        else
          let st : LaneState := if s.purgingOrHeating then .threading else .suspended
          (((s.modLane n fun l => { l with state := st }).settle n).reform, .done [])
      | _ => (s, .wrongState)
  | _ => (s, .badLength)

/-! ## LSTAT -/

/-- Milliseconds in whole seconds, rounded up (R159). -/
def secondsUp (ms : Nat) : Nat := ceilDiv ms 1000

/-- The heat band of a bound lane, or 0 (R154). -/
def State.heatBandOrZero (s : State) (n : LaneId) : Nat :=
  match s.profileOf n with
  | some p => (s.lane n).heatBand p.bands
  | none => 0

/-- The LSTAT answer (R63, R159). DESIGN CHOICE: the residual load is sent as 0 where there is none (assumption 32). -/
def State.laneBytes (s : State) (n : LaneId) : List Byte :=
  let l := s.lane n
  [byteOf n.number, l.state.code] ++ be2 (l.key.getD 0) ++ be2 l.g ++ be2 (l.target.getD 0) ++ be2 l.measured ++
  [flagByte l.overspeed, byteOf (secondsUp l.graceMs)] ++ be2 l.stamp.toNat ++
  [byteOf ((l.lead.map (·.band)).getD 0), Lead.statusCode l.lead] ++ be2 (l.leadMs / 1000) ++
  [flagByte l.residual.isSome] ++ be2 (l.residual.getD 0) ++
  [byteOf (secondsUp l.residualMs), byteOf l.hotWeb, byteOf (s.heatBandOrZero n)] ++ be2 (s.laneLoad n) ++
  [byteOf (queuePosition n s.arbiter.queue), byteOf (bitsValue (s.holds n))]

/-- LSTAT as its owner takes it (R63). -/
def takeLstat (body : List Byte) (s : State) : State × Reply :=
  match body with
  | [lane] =>
    match LaneId.ofNumber lane.toNat with
    | none => (s, .badField 1)
    | some n => (s, .done (s.laneBytes n))
  | _ => (s, .badLength)

/-! ## Encoders, measured speed and overspeed -/

/-- ENCODER_EDGE (R61). -/
def execEncoderEdge (n : LaneId) (gapUs : Nat) (s : State) : Host.Outcome State Fault Refusal :=
  s.whenPowered fun s => s.modLane n fun l =>
    let r := countEdge l.encoder.edges l.encoder.sinceUs gapUs
    { l with encoder := { l.encoder with edges := r.1, sinceUs := r.2 } }

/-- The measured speed of two windows (R61). -/
def measuredSpeed (c₁ c₂ pulsesPerMetre : Nat) : Nat := min 1500 ((c₁ + c₂) * 60 / pulsesPerMetre)

/-- A lane record at an encoder window completion, before it is judged (R61). -/
def Lane.windowDone (l : Lane) (pulsesPerMetre : Nat) : Lane :=
  { l with
    measured := measuredSpeed l.encoder.previous l.encoder.edges pulsesPerMetre
    encoder := { l.encoder with previous := l.encoder.edges, edges := 0, windowMs := 0 } }

/-- The overspeed limit (R62). -/
def overspeedLimit (g : Nat) : Nat := g + max 10 (g / 20)

/-- A lane's new measured speed judged (R62). -/
def State.judgeSpeed (s : State) (n : LaneId) : State :=
  let l := s.lane n
  if !l.state.moving then s
  else if overspeedLimit l.g < l.measured then
    if 0 < l.graceMs then s.setLane n { l with overCount := 0 }
    else if l.overCount = 0 then s.setLane n { l with overCount := 1 }
    else if l.overCount = 1 then
      (s.setLane n { l with overCount := 2, overspeed := true }).latchLane .overspeed n
    else s
  else s.setLane n { l with overCount := 0, overspeed := false }

/-- ENCODER_WINDOW (R61, R62). -/
def execEncoderWindow (n : LaneId) (s : State) : Host.Outcome State Fault Refusal :=
  s.whenPowered fun s =>
    ((s.modLane n fun l => l.windowDone (s.cal.values.encoderPpm.get n)).judgeSpeed n).reform

/-! ## Timers of the lane unit -/

/-- RESIDUAL_HOLD_EXPIRY (R55): a running residual hold ends; a lane in BREAK enters BROKEN. -/
def execResidualHoldExpiry (n : LaneId) (s : State) : Host.Outcome State Fault Refusal :=
  s.whenPowered fun s =>
    if (s.lane n).residual.isSome then
      (s.modLane n fun l =>
        { l with
          residual := none
          residualMs := 0
          state := if l.state = .broke then .broken else l.state }).reform
    else s

/-- DECEL_GRACE_EXPIRY (R49): a running decel grace reaches 0. -/
def execDecelGraceExpiry (n : LaneId) (s : State) : Host.Outcome State Fault Refusal :=
  s.whenPowered fun s => s.modLane n fun l => { l with graceMs := 0 }

end Sys2Proof.Machine
end

