-- ==== Sys2Proof/Machine/Attention.lean ====
section
/-! DEFINITION. The attention unit and the heartbeat supervisor (chapter 9): ATRD, ATCLR, ATMSK, BEAT,
MASTER_SILENT. -/

namespace Sys2Proof.Machine

/-! ## Reading and clearing -/

/-- A lane set with what clearing leaves of it. -/
def keepUnless {w : Nat} (named : Bool) (v : BitVec w) : BitVec w := if named then 0 else v

/-- The causes of a set cleared, each with its detail (R141). -/
def Attention.clear (a : Attention) (set : BitVec 18) : Attention :=
  let named (c : Cause) : Bool := set.getLsbD c.index
  { latched := a.latched &&& ~~~set
    sets :=
      { webBreak := keepUnless (named .webBreak) a.sets.webBreak
        grantReached := keepUnless (named .grantReached) a.sets.grantReached
        withdrawn := keepUnless (named .withdrawn) a.sets.withdrawn
        bandLeadTimeout := keepUnless (named .bandLeadTimeout) a.sets.bandLeadTimeout
        hotWeb := keepUnless (named .hotWeb) a.sets.hotWeb
        overspeed := keepUnless (named .overspeed) a.sets.overspeed
        zoneOvertemp := keepUnless (named .zoneOvertemp) a.sets.zoneOvertemp
        readingStale := keepUnless (named .readingStale) a.sets.readingStale }
    staleCommon := a.staleCommon && !named .readingStale
    faultSlots := keepUnless (named .storeFault) a.faultSlots
    faultCalibration := a.faultCalibration && !named .storeFault
    slotsLost := if named .storeSlotLost then 0 else a.slotsLost
    mask := a.mask }

/-- A lane set as a byte. -/
def laneSetByte (v : BitVec 4) : Byte := v.zeroExtend 8

/-- The 48 bits of a slot set, slot 0 as the low bit of the last byte (R162). -/
def slotSetBytes (v : BitVec 48) : List Byte := be2 (v.toNat / 0x100000000) ++ be4 v.toNat

/-- The ATRD answer (R140, R162). -/
def State.attentionBytes (s : State) : List Byte :=
  let a := s.attention
  be3 a.latched.toNat ++
  [laneSetByte a.sets.webBreak, laneSetByte a.sets.grantReached, laneSetByte a.sets.withdrawn,
   laneSetByte a.sets.bandLeadTimeout, laneSetByte a.sets.hotWeb, laneSetByte a.sets.overspeed,
   laneSetByte a.sets.zoneOvertemp,
   laneSetByte a.sets.readingStale ||| (if a.staleCommon then 0x10 else 0)] ++
  slotSetBytes a.faultSlots ++ [flagByte a.faultCalibration, byteOf a.slotsLost] ++ be3 a.mask.toNat ++
  [byteOf (bitsValue [a.line, s.heartbeat.armed, s.heartbeat.silent])]

/-- ATRD as its owner takes it (R140). -/
def takeAtrd (body : List Byte) (s : State) : State × Reply :=
  match body with
  | [] => (s, .done s.attentionBytes)
  | _ => (s, .badLength)

/-- ATCLR as its owner takes it (R141): the line is re-formed, and the break unit is told of the continuous
condition. -/
def takeAtclr (body : List Byte) (s : State) : State × Reply :=
  match body with
  | [a, b, c] =>
    match readCauseSet a b c with
    | none => (s, .badField 1)
    | some set =>
      let t := { s with attention := s.attention.clear set }.tellHorn.reform
      (t, .done t.attentionBytes)
  | _ => (s, .badLength)

/-- ATMSK as its owner takes it (R142): urgent causes named in the set are ignored. -/
def takeAtmsk (body : List Byte) (s : State) : State × Reply :=
  match body with
  | [a, b, c] =>
    match readCauseSet a b c with
    | none => (s, .badField 1)
    | some set =>
      let mask := set &&& routineCauses
      ({ s with attention := { s.attention with mask := mask } }.reform, .done (be3 mask.toNat))
  | _ => (s, .badLength)

/-! ## The heartbeat supervisor -/

/-- The full heartbeat timeout in ms. -/
def State.heartbeatMs (s : State) : Nat := s.cal.values.heartbeatTenths * 100

/-- BEAT as its owner takes it, addressed or broadcast (R143): the supervisor is armed, its timer starts or restarts,
master-silent ends. -/
def takeBeat (body : List Byte) (s : State) : State × Reply :=
  match body with
  | [] => ({ s with heartbeat := ⟨true, s.heartbeatMs, false⟩ }, .done [flagByte s.heartbeat.silent])
  | _ => (s, .badLength)

/-- The grant queue emptied, each removed lane's pending target and lead cleared (R144, R50). -/
def State.emptyQueue (s : State) : State := s.arbiter.queue.foldl (fun t n => (t.removeTarget n).settle n) s

/-- Every lane above crawl lowered to crawl (R144). -/
def State.lowerToCrawl (s : State) : State :=
  LaneId.all.foldl (fun t n => if t.cal.values.crawl < (t.lane n).g then t.decrease n t.cal.values.crawl else t) s

/-- MASTER_SILENT (R144): the heartbeat timer of an armed supervisor reaches 0. -/
def execMasterSilent (s : State) : Host.Outcome State Fault Refusal :=
  s.whenPowered fun s =>
    if s.heartbeat.armed && !s.heartbeat.silent then
      let t := ({ s with heartbeat := ⟨true, 0, true⟩ }).latch .masterSilent
      t.emptyQueue.lowerToCrawl.reform
    else s

end Sys2Proof.Machine
end

