-- ==== Sys2Proof/Machine/Profiles.lean ====
section
/-! DEFINITION. The profile requests (chapter 1): PLOOK, PLIST, PWRITE, PTRIM, PRETIRE. -/

namespace Sys2Proof.Machine

/-- A store commit is in flight (R147). -/
def State.committing (s : State) : Bool := s.commit.isSome

/-! ## PLOOK and PLIST -/

/-- PLOOK as its owner takes it (R14). -/
def takePlook (body : List Byte) (s : State) : State × Reply :=
  match body with
  | [k1, k0] =>
    match findProfile s.profiles (read2 k1 k0) with
    | some p => (s, .done (p.lookBytes (s.mark p.slot)))
    | none => (s, .notFound)
  | _ => (s, .badLength)

/-- The bytes of one entry of a PLIST answer (R163). -/
def Profile.listBytes (p : Profile) : List Byte := be2 p.key ++ [flagByte p.retirePending, byteOf p.bindCount]

/-- PLIST as its owner takes it (R15). -/
def takePlist (body : List Byte) (s : State) : State × Reply :=
  match body with
  | [k1, k0] =>
    let ps := s.profiles.filter fun p => read2 k1 k0 ≤ p.key
    let page := ps.take 16
    (s, .done ([byteOf page.length, flagByte (decide (16 < ps.length))] ++ (page.map Profile.listBytes).flatten))
  | _ => (s, .badLength)

/-! ## PWRITE -/

/-- A record created (R17): revision 0, ACTIVE, unbound, tied to the lowest free slot index. -/
def State.createProfile (s : State) (f : ProfileFields) : State × Reply :=
  let slot := lowestFreeSlot s.profiles
  let p : Profile := { f.filed with revision := 0, retirePending := false, bindCount := 0, slot := slot }
  ({ s.setMark slot with profiles := insertProfile p s.profiles }, .done [0, byteOf slot, 0])

/-- An unbound record replaced (R18): its revision steps, its slot index stays. -/
def State.replaceRecord (s : State) (p : Profile) (f : ProfileFields) : State × Reply :=
  let q : Profile := { p with toProfileFields := f.filed, revision := p.revision + 1 }
  ({ s.setMark p.slot with profiles := replaceProfile s.profiles q }, .done [q.revision, byteOf p.slot, 1])

/-- The tests of PWRITE against the table, and the taking (R16, steps 5 to 7). -/
def State.writeProfile (s : State) (f : ProfileFields) : State × Reply :=
  match findProfile s.profiles f.key with
  | some p =>
    if p.retirePending then (s, .retiring)
    else if 0 < p.bindCount then (s, .inUse)
    else s.replaceRecord p f
  | none => if 48 ≤ s.profiles.length then (s, .tableFull) else s.createProfile f

/-- PWRITE as its owner takes it (R16, R157). -/
def takePwrite (body : List Byte) (s : State) : State × Reply :=
  if s.committing then (s, .busy)
  else match readPwrite body with
    | none => (s, .badLength)
    | some b =>
      if !within 1 8 b.coupleCount then (s, .badField 5)
      else if !within 1 6 b.bandCount then (s, .badField 6)
      else if b.entries.length ≠ 3 * b.coupleCount + 10 * b.bandCount then (s, .badLength)
      else match firstFailed b.fields.tests with
        | some i => (s, .badField i)
        | none => s.writeProfile b.fields

/-! ## PTRIM -/

/-- A couple with an id is in the list. -/
def hasCouple (cs : List Couple) (id : Nat) : Bool := cs.any (·.id == id)

/-- The couple of an id changed. -/
def modCouple (cs : List Couple) (id : Nat) (f : Couple → Couple) : List Couple :=
  cs.map fun c => if c.id = id then f c else c

/-- Band number k changed. -/
def modBand (bs : List Band) (k : Nat) (f : Band → Band) : List Band := bs.modify (k - 1) f

/-- A temperature of a band set by its field code, if the code exists and the value is in its range (R156, R20). -/
def Band.setField (b : Band) (field v : Nat) : Option Band :=
  match field with
  | 1 => if within 100 400 v then some { b with z1 := v } else none
  | 2 => if within 100 400 v then some { b with z2 := v } else none
  | 3 => if within 100 400 v then some { b with z3 := v } else none
  | 4 => if within 80 180 v then some { b with webExitMin := v } else none
  | 5 => if within 15 45 v then some { b with chillExitMax := v } else none
  | _ => none

/-- One trim item applied to the working copy, or none where it is invalid (R20). -/
def ProfileFields.applyItem (f : ProfileFields) : TrimItem → Option ProfileFields
  | .setCoverage id v =>
    if hasCouple f.couples id && v ≤ 400 then
      some { f with couples := modCouple f.couples id fun c => { c with coverage := v } }
    else none
  | .setRate id v =>
    if hasCouple f.couples id && v ≤ 1000 then
      some { f with couples := modCouple f.couples id fun c => { c with rate := v } }
    else none
  | .addCouple c =>
    if within 1 8 c.id && !hasCouple f.couples c.id && f.couples.length < 8 && c.coverage ≤ 400 && c.rate ≤ 1000 then
      some { f with couples := insertCouple c f.couples }
    else none
  | .removeCouple id =>
    if hasCouple f.couples id then some { f with couples := f.couples.filter (·.id != id) } else none
  | .setBandField k field v =>
    if within 1 f.bands.length k then
      ((bandAt f.bands k).setField field v).map fun b => { f with bands := modBand f.bands k fun _ => b }
    else none
  | .setBandBound k v =>
    if within 1 f.bands.length k && within 60 1200 v && v % 5 == 0 then
      some { f with bands := modBand f.bands k fun b => { b with bound := v } }
    else none
  | .setTolerance v => if within 5 40 v then some { f with tolerance := v } else none
  | .setOverride v => if within 5 120 v then some { f with override := some v } else none
  | .clearOverride => some { f with override := none }
  | .unknown => none

/-- The items applied one after another, the first at a position; the position of the first invalid one (R20). -/
def ProfileFields.applyItems (f : ProfileFields) : Nat → List TrimItem → Except Nat ProfileFields
  | _, [] => .ok f
  | k, i :: is =>
    match f.applyItem i with
    | none => .error k
    | some g => g.applyItems (k + 1) is

/-- The position of the last item that passes a test, from a position on; 0 where none does. -/
def lastPosition (test : TrimItem → Bool) : Nat → List TrimItem → Nat
  | _, [] => 0
  | k, i :: is =>
    match lastPosition test (k + 1) is with
    | 0 => if test i then k else 0
    | j => j

/-- A remove-couple item. -/
def TrimItem.isRemove : TrimItem → Bool
  | .removeCouple _ => true
  | _ => false

/-- A set-band-bound item. -/
def TrimItem.isBound : TrimItem → Bool
  | .setBandBound _ _ => true
  | _ => false

/-- The bounds strictly increase from each band to the next (R3). -/
def boundsIncrease : List Band → Bool
  | [] => true
  | [_] => true
  | a :: b :: bs => a.bound < b.bound && boundsIncrease (b :: bs)

/-- The working copy after all items, or the item that BAD_FIELD names (R20, R21). -/
def ProfileFields.trimmed (f : ProfileFields) (items : List TrimItem) : Except Nat ProfileFields :=
  match f.applyItems 1 items with
  | .error k => .error k
  | .ok g =>
    if g.couples = [] then .error (lastPosition TrimItem.isRemove 1 items)
    else if !boundsIncrease g.bands then .error (lastPosition TrimItem.isBound 1 items)
    else .ok g

/-- A trim accepted (R22): the copy becomes the record, the revision steps, the mark is set, the lane unit examines
the bound lanes. -/
def State.acceptTrim (s : State) (p : Profile) (f : ProfileFields) : State × Reply :=
  let q : Profile := { p with toProfileFields := f, revision := p.revision + 1 }
  let t : State := { s.setMark p.slot with profiles := replaceProfile s.profiles q }
  ((t.trimLanes p.key f.bands).reform, .done (q.revision :: be2 (maxSpeed f.bands)))

/-- The tests of PTRIM on the record of its key, and the taking (R19, steps 4 to 6). -/
def State.trimProfile (s : State) (b : PtrimBody) (items : List TrimItem) : State × Reply :=
  match findProfile s.profiles b.key with
  | none => (s, .notFound)
  | some p =>
    if b.expected.any (· != p.revision) then (s, .staleRevision p.revision)
    else match p.toProfileFields.trimmed items with
      | .error k => (s, .badField k)
      | .ok f => s.acceptTrim p f

/-- PTRIM as its owner takes it (R19, R157). -/
def takePtrim (body : List Byte) (s : State) : State × Reply :=
  if s.committing then (s, .busy)
  else match readPtrim body with
    | none => (s, .badLength)
    | some b =>
      if !within 1 8 b.count then (s, .badField 0)
      else match readItems b.count b.items with
        | none => (s, .badLength)
        | some items => s.trimProfile b items

/-! ## PRETIRE -/

/-- The record of PRETIRE's key dealt with (R23). -/
def State.retire (s : State) (p : Profile) : State × Reply :=
  if p.retirePending then (s, .done [1])
  else if p.bindCount = 0 then (s.removeRecord p, .done [0])
  else ({ s with profiles := replaceProfile s.profiles { p with retirePending := true } }, .done [1])

/-- PRETIRE as its owner takes it (R23). -/
def takePretire (body : List Byte) (s : State) : State × Reply :=
  if s.committing then (s, .busy)
  else match body with
    | [k1, k0] =>
      match findProfile s.profiles (read2 k1 k0) with
      | none => (s, .notFound)
      | some p => s.retire p
    | _ => (s, .badLength)

end Sys2Proof.Machine
end

