-- ==== Sys2Proof/Machine/Store.lean ====
section
/-! DEFINITION. The profile store and the calibration (chapter 10): SCOMMIT, SLOT_WRITE_DONE, the store load, CRD, CWR,
SRST, STATION_RESET, POWER_ON, POWER_LOSS. -/

namespace Sys2Proof.Machine

/-! ## Commits (R147, R148) -/

/-- The image of the record tied to a slot index, or its absence. -/
def imageOf (ps : List Profile) (slot : Nat) : Option ProfileImage :=
  (ps.find? (·.slot == slot)).map (·.toProfileImage)

/-- The profile writes of a snapshot: the marked slot indices in ascending order, each with its record or its
absence. -/
def State.snapshotWrites (s : State) : List (Nat × Option ProfileImage) :=
  ((List.range 48).filter s.mark).map fun i => (i, imageOf s.profiles i)

/-- The calibration of a snapshot, if it is marked changed. -/
def State.snapshotCalibration (s : State) : Option (List Nat) :=
  if s.cal.changed then some s.cal.values.toValues else none

/-- The commit ends: it is no longer in flight and STORE_DONE is latched (R148). -/
def State.endCommit (s : State) : State := { s with commit := none }.latch .storeDone

/-- The commit goes on with what is still to be written, or ends. -/
def State.continueCommit (s : State) (c : Commit) : State :=
  if c.writes = [] ∧ c.calibration = none then s.endCommit else { s with commit := some c }

/-- SCOMMIT as its owner takes it (R147). -/
def takeScommit (body : List Byte) (s : State) : State × Reply :=
  if s.committing then (s, .busy)
  else match body with
    | [] =>
      let c : Commit := ⟨s.snapshotWrites, s.snapshotCalibration, 0, 0⟩
      ((s.continueCommit c).reform, .done [byteOf c.writes.length, flagByte c.calibration.isSome])
    | _ => (s, .badLength)

/-- What a slot holds after a write: the image or the erased state where the write verified, else an undefined content,
a free value (R146). -/
def writtenContent {α : Type} (image : Option α) (verified : Bool) (free : Nat) : SlotContent α :=
  if verified then
    match image with
    | some i => .image i
    | none => .erased
  else .undefined free

/-- The content of a profile slot written. -/
def State.setSlot (s : State) (i : Nat) (c : SlotContent ProfileImage) : State :=
  { s with store := { s.store with slots := s.store.slots.set i c } }

/-- The content of the calibration slot written. -/
def State.setCalibrationSlot (s : State) (c : SlotContent (List Nat)) : State :=
  { s with store := { s.store with calibration := c } }

/-- The free-value counter stepped (assumption 8). -/
def State.stepFree (s : State) : State := { s with freeIndex := s.freeIndex + 1 }

/-- STORE_FAULT latched with a slot index. -/
def State.latchSlotFault (s : State) (i : Nat) : State :=
  let t := s.latch .storeFault
  { t with attention := { t.attention with faultSlots := t.attention.faultSlots ||| slotBit i } }

/-- STORE_FAULT latched with its calibration indication. -/
def State.latchCalibrationFault (s : State) : State :=
  let t := s.latch .storeFault
  { t with attention := { t.attention with faultCalibration := true } }

/-- The mark of a slot index cleared, unless it was set again after the snapshot (R148). -/
def State.clearMark (s : State) (i : Nat) (remarked : BitVec 48) : State :=
  if remarked.getLsbD i then s else { s with marks := s.marks &&& ~~~(slotBit i) }

/-- A profile slot write ends (R146, R148). -/
def State.slotWritten (s : State) (i : Nat) (image : Option ProfileImage) (remarked : BitVec 48) (verified : Bool) :
    State :=
  let t := s.setSlot i (writtenContent image verified s.freeIndex)
  if verified then t.clearMark i remarked else t.stepFree.latchSlotFault i

/-- The calibration slot write ends (R148). -/
def State.calibrationWritten (s : State) (values : List Nat) (verified : Bool) : State :=
  let t := s.setCalibrationSlot (writtenContent (some values) verified s.freeIndex)
  if verified then { t with cal := { t.cal with changed := false } } else t.stepFree.latchCalibrationFault

/-- The slot write in progress ends; the commit goes on or ends (R148). -/
def State.writeDone (s : State) (c : Commit) (verified : Bool) : State :=
  match c.writes with
  | (i, image) :: rest =>
    (s.slotWritten i image c.remarked verified).continueCommit { c with writes := rest, elapsedMs := 0 }
  | [] =>
    match c.calibration with
    | some v => (s.calibrationWritten v verified).continueCommit { c with calibration := none, elapsedMs := 0 }
    | none => s.endCommit

/-- SLOT_WRITE_DONE (R148). -/
def execSlotWriteDone (verified : Bool) (s : State) : Host.Outcome State Fault Refusal :=
  s.whenPowered fun s =>
    match s.commit with
    | some c => (s.writeDone c verified).reform
    | none => s

/-! ## The store load (R149, R150) -/

/-- What reading a profile slot gives: nothing legible, or an erased slot or an image with a good check. -/
def readProfileSlot : SlotContent ProfileImage → Option (Option ProfileImage)
  | .erased => some none
  | .image i => some (some i)
  | .damaged => none
  | .undefined n => Config.undefinedProfileSlot n

/-- What reading the calibration slot gives: a block with a good check, or nothing. -/
def readCalibrationSlot : SlotContent (List Nat) → Option (List Nat)
  | .erased => none
  | .image v => some v
  | .damaged => none
  | .undefined n => Config.undefinedCalibrationSlot n

/-- The record that a good image yields, tied to the slot it was read from (R9, R149). -/
def ProfileImage.record (i : ProfileImage) (slot : Nat) : Profile :=
  { i with couples := sortCouples i.couples, retirePending := false, bindCount := 0, slot := slot }

/-- The table and the number of lost slots after slot `i` is read (R149). -/
def loadSlot (r : List Profile × Nat) (i : Nat) (c : SlotContent ProfileImage) : List Profile × Nat :=
  match readProfileSlot c with
  | none => (r.1, r.2 + 1)
  | some none => r
  | some (some image) =>
    if (firstFailed image.tests).isNone && (findProfile r.1 image.key).isNone then
      (insertProfile (image.record i) r.1, r.2)
    else (r.1, r.2 + 1)

/-- The slots from an index on, read in ascending index (R149). -/
def loadSlots : List Profile × Nat → Nat → List (SlotContent ProfileImage) → List Profile × Nat
  | r, _, [] => r
  | r, i, c :: cs => loadSlots (loadSlot r i c) (i + 1) cs

/-- A block is good: 29 values that pass every test of CWR (R150). -/
def goodBlock (v : List Nat) : Bool := v.length == 29 && (firstFailed (calibrationTests v)).isNone

/-- The calibration that the store yields (R150). -/
def loadCalibration (c : SlotContent (List Nat)) : CalRecord :=
  match readCalibrationSlot c with
  | some v => if goodBlock v then ⟨.ofValues v, true, false⟩ else ⟨.default, false, false⟩
  | none => ⟨.default, false, false⟩

/-- STORE_SLOT_LOST latched with the number of slots lost, if any (R149). -/
def State.latchLost (s : State) (lost : Nat) : State :=
  if lost = 0 then s
  else
    let t := s.latch .storeSlotLost
    { t with attention := { t.attention with slotsLost := lost } }

/-- Every block at its reset values and the store loaded (R149, R150), with the straps and the break lines as they
stand. The store, the free-value counter and the waiting commands stay. -/
def State.boot (s : State) (straps : Straps) (levels : PerLane Bool) : State :=
  let t := State.fresh s.store straps levels
  let r := loadSlots ([], 0) 0 s.store.slots
  let cal := loadCalibration s.store.calibration
  { t with
    profiles := r.1
    cal := cal
    load := { t.load with activeLimit := cal.values.normalLimit }
    freeIndex := s.freeIndex
    pending := s.pending }.latchLost r.2

/-! ## CRD and CWR -/

/-- CRD as its owner takes it (R151). -/
def takeCrd (body : List Byte) (s : State) : State × Reply :=
  match body with
  | [] => (s, .done (s.cal.values.bytes ++ [flagByte s.cal.valid, flagByte s.cal.changed]))
  | _ => (s, .badLength)

/-- One break input judged afresh against a new polarity and confirmation time (R113). -/
def BreakInput.rejudged (b : BreakInput) (old new : Calibration) (n : LaneId) : BreakInput :=
  b.judged (b.level == old.activeHigh.get n) (b.level == new.activeHigh.get n) new.confirmMs

/-- Every fresh channel judged against the stale age in force (R102). DESIGN CHOICE: where this makes ANALYZER stale the
excess count is cleared, although R109 says that it does not change at a CWR (assumption 31). -/
def State.judgeAges (s : State) : State :=
  Channel.all.foldl
    (fun t c => if (t.reading c).fresh && decide (t.staleMs ≤ (t.reading c).ageMs) then t.goStale c else t) s

/-- A calibration taken and handed to its users (R152): active limit, stale ages, break inputs. -/
def State.takeCalibration (s : State) (c : Calibration) : State :=
  let breaks := PerLane.form fun n => (s.breakInput n).rejudged s.cal.values c n
  { s with cal := ⟨c, true, true⟩, breaks := breaks }.reformLimit.judgeAges

/-- CWR as its owner takes it (R152). -/
def takeCwr (body : List Byte) (s : State) : State × Reply :=
  if s.committing then (s, .busy)
  else if s.dryer.state ≠ .off then (s, .wrongState)
  else match readCalibration body with
    | none => (s, .badLength)
    | some v =>
      match firstFailed (calibrationTests v) with
      | some i => (s, .badField i)
      | none => ((s.takeCalibration (.ofValues v)).reform, .done [])

/-! ## Station reset and power -/

/-- SRST as its owner takes it (R153). -/
def takeSrst (body : List Byte) (s : State) : State × Reply :=
  match body with
  | [] => if s.dryer.state = .off then ({ s with resetAccepted := true }, .done []) else (s, .wrongState)
  | _ => (s, .badLength)

/-- A station reset is accepted, its answer has ended and no commit is in flight (R153). -/
def State.resetDue (s : State) : Bool :=
  s.powered && s.resetAccepted && s.port.state != .answer && !s.committing

/-- The break lines' levels as they stand. -/
def State.breakLevels (s : State) : PerLane Bool := PerLane.form fun n => (s.breakInput n).level

/-- STATION_RESET (R153, R136): where the reset is due, every block takes its reset values, the store is read again and
the straps are read again; the link counts and the last-error kind are kept. -/
def execStationReset (straps : Straps) (s : State) : Host.Outcome State Fault Refusal :=
  .next <|
    if s.resetDue then
      let t := s.boot straps s.breakLevels
      { t with port := { t.port with
          lastError := s.port.lastError
          discarded := s.port.discarded
          collisions := s.port.collisions
          held := s.port.held } }
    else s

/-- The slot whose write is cut short by a loss of supply is left undefined (R146). -/
def State.cutWrite (s : State) : State :=
  match s.commit with
  | some c =>
    match c.writes with
    | (i, _) :: _ => (s.setSlot i (.undefined s.freeIndex)).stepFree
    | [] => (s.setCalibrationSlot (.undefined s.freeIndex)).stepFree
  | none => s

/-- The supply lost (R146): all activity ends and working memory is lost. DESIGN CHOICE: the lost working memory stands
at its reset values, which nothing can read before the next power-on (assumption 12). -/
def State.losePower (s : State) : State :=
  let t := s.cutWrite
  { State.fresh t.store s.straps s.breakLevels with
    powered := false, freeIndex := t.freeIndex, pending := s.pending }

/-- POWER_LOSS (R146). -/
def execPowerLoss (s : State) : Host.Outcome State Fault Refusal :=
  .next (if s.powered then s.losePower else s)

/-- The break lines' levels from their four bits. -/
def levelsOf (bits : BitVec 4) : PerLane Bool :=
  PerLane.form fun n => (bits &&& n.bit) != 0

/-- POWER_ON (R149, R146): a supply still present has been lost before it comes (assumption 26). -/
def execPowerOn (straps : Straps) (breakLevels : BitVec 4) (s : State) : Host.Outcome State Fault Refusal :=
  .next ((if s.powered then s.losePower else s).boot straps (levelsOf breakLevels))

end Sys2Proof.Machine
end

