-- ==== Sys2Proof/Machine/Link.lean ====
section
/-! DEFINITION. The line link port (chapter 8): hearing characters, discards, taking a frame, answers, collisions, the
link-free input, KSTAT. -/

namespace Sys2Proof.Machine

/-! ## Counts and port states -/

/-- A count one higher, saturating at 65535 (R130). -/
def countLink (n : Nat) : Nat := min 65535 (n + 1)

/-- A frame discarded silently for a reason (R130): the kind is kept, the count goes up, the port hunts. -/
def State.discard (s : State) (kind : LinkError) : State :=
  { s with port := { s.port with
      state := .hunt, rx := [], lastError := kind, discarded := countLink s.port.discarded } }

/-- The port in HUNT with nothing received and nothing to send. -/
def State.hunt (s : State) : State :=
  { s with port := { s.port with state := .hunt, rx := [], answer := [], answerMs := 0, driving := false } }

/-- An answer abandoned for a collision (R133). -/
def State.collide (s : State) : State :=
  let t := s.hunt
  { t with port := { t.port with
      idleMs := 0, lastError := .collision, collisions := countLink t.port.collisions } }

/-- The port takes no character as a request's: without supply, between an accepted SRST and the reset (R153), while the
link-free input stays low (R134), and while it drives the line (R133). -/
def State.deaf (s : State) : Bool :=
  !s.powered || s.resetAccepted || s.port.held || (s.port.state == .answer && s.port.driving)

/-- A character heard by a port that takes none: an answer that waits is abandoned all the same, for the line is busy
before it has begun (R133; DEDUCED for the answer to an SRST, assumption 20). -/
def State.busyLine (s : State) : State :=
  if s.powered ∧ s.port.held = false ∧ s.port.state = .answer ∧ s.port.driving = false then s.collide else s

/-- The line has been idle for more than 4 character times, as far as the port's own idle time shows (R128). -/
def State.longIdle (s : State) : Bool := gapMs s.port.rate ≤ s.port.idleMs

/-- The port's idle time set. -/
def State.setIdle (s : State) (ms : Nat) : State := { s with port := { s.port with idleMs := ms } }

/-! ## KSTAT -/

/-- KSTAT as its owner takes it (R135). -/
def takeKstat (body : List Byte) (s : State) : State × Reply :=
  match body with
  | [flag] =>
    let r : Reply := .done (s.port.lastError.code :: (be2 s.port.discarded ++ be2 s.port.collisions))
    if flag = 0 then (s, r)
    else if flag = 1 then ({ s with port := { s.port with discarded := 0, collisions := 0 } }, r)
    else (s, .badField 1)
  | _ => (s, .badLength)

/-! ## Taking a frame (R131) -/

/-- The owner of a request code, if the code is one of the table (R154). -/
def ownerOf (code : Byte) : Option (List Byte → State → State × Reply) :=
  match code.toNat with
  | 0x01 => some takePlook
  | 0x02 => some takePlist
  | 0x03 => some takePwrite
  | 0x04 => some takePtrim
  | 0x05 => some takePretire
  | 0x08 => some takeLthrd
  | 0x09 => some takeLunth
  | 0x0A => some takeLspd
  | 0x0B => some takeLclr
  | 0x0C => some takeLbrk
  | 0x0D => some takeLstat
  | 0x10 => some takeDstart
  | 0x11 => some takeDstop
  | 0x12 => some takeDstat
  | 0x14 => some takeRdg
  | 0x18 => some takeBeat
  | 0x19 => some takeAtrd
  | 0x1A => some takeAtclr
  | 0x1B => some takeAtmsk
  | 0x1C => some takePkrd
  | 0x20 => some takeScommit
  | 0x21 => some takeCrd
  | 0x22 => some takeCwr
  | 0x28 => some takeSrst
  | 0x29 => some takeKstat
  | _ => none

/-- Whom a frame is addressed to. -/
inductive FrameTo where
  | station | broadcast | other
  deriving DecidableEq, Repr

/-- The judgement of a frame's address (R131, R125): with no station address every addressed frame is another
station's. -/
def State.judgeAddress (s : State) (address : Byte) : FrameTo :=
  if address = 0 then .broadcast
  else if address = s.port.address.zeroExtend 8 then .station
  else .other

/-- The answer prepared, the port in ANSWER (R131, R132). -/
def State.prepareAnswer (s : State) (code : Byte) (r : Reply) : State :=
  { s with port := { s.port with
      state := .answer, rx := [], answer := answerFrame s.port.address code r, answerMs := 0, driving := false } }

/-- What a request addressed to the part does (R131): its owner takes it and the answer is prepared, or the code is
unknown. -/
def State.answerRequest (s : State) (code : Byte) (body : List Byte) : State :=
  match ownerOf code with
  | some owner =>
    let r := owner body s
    r.1.prepareAnswer code r.2
  | none => s.prepareAnswer code .unknownRequest

/-- What a broadcast frame does (R131): BEAT and LBRK are taken without an answer; a frame that is not taken is counted
as a BROADCAST discard. -/
def State.takeBroadcast (s : State) (code : Byte) (body : List Byte) : State :=
  if code = codeBeat ∨ code = codeLbrk then
    match ownerOf code with
    | some owner =>
      let r := owner body s
      match r.2 with
      | .done _ => r.1.hunt
      | _ => s.discard .broadcast
    | none => s.discard .broadcast
  else s.discard .broadcast

/-- A good frame taken (R131). It is taken when the line has been idle for 4 character times. -/
def State.takeFrame (s : State) (dest : FrameTo) (code : Byte) (body : List Byte) : State :=
  let t := s.setIdle (gapMs s.port.rate)
  match dest with
  | .other => t.hunt
  | .broadcast => t.takeBroadcast code body
  | .station => if t.port.address = 0 then t.hunt else t.answerRequest code body

/-! ## Hearing characters (R128, R129) -/

/-- The frame waiting in HOLD taken. -/
def State.takeHeld (s : State) : State :=
  match s.port.rx with
  | address :: code :: length :: rest => s.takeFrame (s.judgeAddress address) code (rest.take length.toNat)
  | _ => s.hunt

/-- The characters make a complete frame: as many as the length character says (R126). -/
def frameComplete (rx : List Byte) : Bool :=
  match rx with
  | _ :: _ :: length :: _ => rx.length == 5 + length.toNat
  | _ => false

/-- A good character added to the frame in arrival (R129): a body length above 96 or a bad check discards it, and a
complete good frame waits in HOLD. -/
def State.addGood (s : State) (rx : List Byte) : State :=
  if rx.length = 3 ∧ 96 < (rx.getD 2 0).toNat then s.discard .length
  else if frameComplete rx then
    if frameGood rx then { s with port := { s.port with state := .hold, rx := rx } } else s.discard .check
  else { s with port := { s.port with state := .receive, rx := rx } }

/-- A character added to the characters received so far; a bad one discards the frame at once (R129, R130). -/
def State.addCharacter (s : State) (rx : List Byte) (c : LineChar) : State :=
  if c.bad then s.discard c.errorKind else s.addGood (rx ++ [c.data])

/-- A character judged as in HUNT: a frame start after more than 4 character times of idle, else ignored (R128). -/
def State.hearInHunt (s : State) (gap : Bool) (c : LineChar) : State := if gap then s.addCharacter [] c else s

/-- A character heard in HUNT, or in ANSWER before the answer has begun, where it abandons the answer (R128, R133). -/
def State.hearOutside (s : State) (gap : Bool) (c : LineChar) : State :=
  if s.deaf then s.busyLine
  else if s.port.state = .answer then s.collide.hearInHunt gap c
  else s.hearInHunt gap c

/-- A character heard (R128, R129, R133). -/
def State.hear (s : State) (c : LineChar) : State :=
  if s.deaf then s.busyLine
  else
    let gap := c.afterGap || s.longIdle
    let t := s.setIdle 0
    match s.port.state with
    | .hunt => t.hearOutside gap c
    | .answer => t.hearOutside gap c
    | .receive => if gap then (t.discard .short).hearOutside true c else t.addCharacter t.port.rx c
    | .hold => if gap then (s.takeHeld.hearOutside true c).setIdle 0 else t.discard .overlong

/-- A character heard within 4 character times of the one before it. -/
def State.hearWithin (s : State) (c : LineChar) : State :=
  if s.deaf then s.busyLine else (s.setIdle 0).hear { c with afterGap := false }

/-- The line stays idle for more than 4 character times (R128, R129): a partial frame is discarded as SHORT, a frame in
HOLD is taken. -/
def State.lineIdle (s : State) : State :=
  if s.deaf then s
  else match s.port.state with
    | .receive => (s.discard .short).setIdle (gapMs s.port.rate)
    | .hold => s.takeHeld
    | _ => s.setIdle (gapMs s.port.rate)

/-- A whole good frame arrives after more than 4 character times of idle line, and the line is then idle for 4
character times. A waiting answer meets a busy line first (R133). A body length above 96 discards the frame (R129). -/
def State.frameArrives (s : State) (dest : FrameTo) (code : Byte) (body : List Byte) : State :=
  let t := s.lineIdle
  if t.deaf then t.busyLine
  else
    let u := if t.port.state = .answer then t.collide else t
    if 96 < body.length then u.discard .length else u.takeFrame dest code body

/-! ## Frames that are not taken -/

/-- FRAME_DISCARD (R128, R129, R130): the characters are heard. -/
def execFrameDiscard (chars : List LineChar) (s : State) : Host.Outcome State Fault Refusal :=
  .next (chars.foldl State.hear s)

/-- SHORT_FRAME (R128): the characters are heard, and the line then stays idle for more than 4 character times. -/
def execShortFrame (chars : List LineChar) (s : State) : Host.Outcome State Fault Refusal :=
  .next (chars.foldl State.hear s).lineIdle

/-- OVERLONG_FRAME (R129): the characters are heard, and one more within 4 character times. -/
def execOverlongFrame (chars : List LineChar) (extra : LineChar) (s : State) : Host.Outcome State Fault Refusal :=
  .next ((chars.foldl State.hear s).hearWithin extra)

/-! ## The answer on the line (R132, R133) -/

/-- ANSWER_BEGIN (R132): the port begins to drive the line with its waiting answer. -/
def execAnswerBegin (s : State) : Host.Outcome State Fault Refusal :=
  s.whenPowered fun s =>
    if s.port.state = .answer ∧ s.port.driving = false then
      { s with port := { s.port with driving := true, answerMs := 0 } }
    else s

/-- ANSWER_END (R132): the answer being driven ends, the line is released, the idle time counts from its stop bit. -/
def execAnswerEnd (s : State) : Host.Outcome State Fault Refusal :=
  s.whenPowered fun s =>
    if s.port.state = .answer ∧ s.port.driving = true then s.hunt.setIdle 0 else s

/-- A character of the answer reads back different, or as a bad character (R133). -/
def mismatch (answer : List Byte) (index : Nat) (heard : LineChar) : Bool :=
  match answer[index]? with
  | some sent => heard.bad || heard.data != sent
  | none => false

/-- COLLISION (R133). -/
def execCollision (event : CollisionEvent) (s : State) : Host.Outcome State Fault Refusal :=
  s.whenPowered fun s =>
    if s.port.state = .answer then
      match event with
      | .readback i heard => if s.port.driving && mismatch s.port.answer i heard then s.collide else s
      | .busyLine c =>
        if s.port.driving then s else s.collide.hearOutside (c.afterGap || s.longIdle) c
    else s

/-! ## The link-free input (R134) -/

/-- LINK_FREE (R134). -/
def execLinkFree (s : State) : Host.Outcome State Fault Refusal :=
  s.whenPowered fun s =>
    let t := s.hunt
    { t with port := { t.port with held := true, idleMs := 0 } }

/-- LINK_FREE_RELEASE (R134). -/
def execLinkFreeRelease (s : State) : Host.Outcome State Fault Refusal :=
  s.whenPowered fun s =>
    if s.port.held then { s with port := { s.port with held := false, idleMs := 0 } } else s

end Sys2Proof.Machine
end

