-- ==== Sys2Proof/Machine/Requests.lean ====
section
/-! DEFINITION. The request commands: a good frame with the row's request code arrives and is taken (R131). What the
request does is its owner's: takePlook and the other take definitions of the family files. -/

namespace Sys2Proof.Machine

/-- A request addressed to the part arrives. -/
def State.requestArrives (s : State) (code : Byte) (body : List Byte) : Host.Outcome State Fault Refusal :=
  .next (s.frameArrives .station code body)

/-- PLOOK (R14). -/
def execPlook (body : List Byte) (s : State) : Host.Outcome State Fault Refusal := s.requestArrives codePlook body

/-- PLIST (R15). -/
def execPlist (body : List Byte) (s : State) : Host.Outcome State Fault Refusal := s.requestArrives codePlist body

/-- PWRITE (R16, R17, R18). -/
def execPwrite (body : List Byte) (s : State) : Host.Outcome State Fault Refusal := s.requestArrives codePwrite body

/-- PTRIM (R19 to R22). -/
def execPtrim (body : List Byte) (s : State) : Host.Outcome State Fault Refusal := s.requestArrives codePtrim body

/-- PRETIRE (R23). -/
def execPretire (body : List Byte) (s : State) : Host.Outcome State Fault Refusal := s.requestArrives codePretire body

/-- PKRD (R37). -/
def execPkrd (body : List Byte) (s : State) : Host.Outcome State Fault Refusal := s.requestArrives codePkrd body

/-- LTHRD (R46). -/
def execLthrd (body : List Byte) (s : State) : Host.Outcome State Fault Refusal := s.requestArrives codeLthrd body

/-- LUNTH (R57). -/
def execLunth (body : List Byte) (s : State) : Host.Outcome State Fault Refusal := s.requestArrives codeLunth body

/-- LSPD (R51). -/
def execLspd (body : List Byte) (s : State) : Host.Outcome State Fault Refusal := s.requestArrives codeLspd body

/-- LCLR (R56). -/
def execLclr (body : List Byte) (s : State) : Host.Outcome State Fault Refusal := s.requestArrives codeLclr body

/-- LSTAT (R63). -/
def execLstat (body : List Byte) (s : State) : Host.Outcome State Fault Refusal := s.requestArrives codeLstat body

/-- DSTART (R86). -/
def execDstart (body : List Byte) (s : State) : Host.Outcome State Fault Refusal := s.requestArrives codeDstart body

/-- DSTOP (R91). -/
def execDstop (body : List Byte) (s : State) : Host.Outcome State Fault Refusal := s.requestArrives codeDstop body

/-- DSTAT (R97). -/
def execDstat (body : List Byte) (s : State) : Host.Outcome State Fault Refusal := s.requestArrives codeDstat body

/-- RDG (R100, R101). -/
def execRdg (body : List Byte) (s : State) : Host.Outcome State Fault Refusal := s.requestArrives codeRdg body

/-- LBRK, addressed (R115). -/
def execLbrk (body : List Byte) (s : State) : Host.Outcome State Fault Refusal := s.requestArrives codeLbrk body

/-- LBRK, broadcast (R116). -/
def execLbrkBroadcast (body : List Byte) (s : State) : Host.Outcome State Fault Refusal :=
  .next (s.frameArrives .broadcast codeLbrk body)

/-- KSTAT (R135). -/
def execKstat (body : List Byte) (s : State) : Host.Outcome State Fault Refusal := s.requestArrives codeKstat body

/-- BEAT, addressed or broadcast (R143). -/
def execBeat (broadcast : Bool) (body : List Byte) (s : State) : Host.Outcome State Fault Refusal :=
  .next (s.frameArrives (if broadcast then .broadcast else .station) codeBeat body)

/-- ATRD (R140). -/
def execAtrd (body : List Byte) (s : State) : Host.Outcome State Fault Refusal := s.requestArrives codeAtrd body

/-- ATCLR (R141). -/
def execAtclr (body : List Byte) (s : State) : Host.Outcome State Fault Refusal := s.requestArrives codeAtclr body

/-- ATMSK (R142). -/
def execAtmsk (body : List Byte) (s : State) : Host.Outcome State Fault Refusal := s.requestArrives codeAtmsk body

/-- SCOMMIT (R147). -/
def execScommit (body : List Byte) (s : State) : Host.Outcome State Fault Refusal := s.requestArrives codeScommit body

/-- CRD (R151). -/
def execCrd (body : List Byte) (s : State) : Host.Outcome State Fault Refusal := s.requestArrives codeCrd body

/-- CWR (R152). -/
def execCwr (body : List Byte) (s : State) : Host.Outcome State Fault Refusal := s.requestArrives codeCwr body

/-- SRST (R153). -/
def execSrst (body : List Byte) (s : State) : Host.Outcome State Fault Refusal := s.requestArrives codeSrst body

/-- UNKNOWN_REQUEST (R131, R154): a frame addressed to the part with a given code. -/
def execUnknownRequest (code : Byte) (body : List Byte) (s : State) : Host.Outcome State Fault Refusal :=
  s.requestArrives code body

/-- OTHER_STATION_FRAME (R131): a good frame with a given address. -/
def execOtherStationFrame (address code : Byte) (body : List Byte) (s : State) : Host.Outcome State Fault Refusal :=
  .next (s.frameArrives (s.judgeAddress address) code body)

/-- BROADCAST_DISCARD (R131): a good broadcast frame with a given code. -/
def execBroadcastDiscard (code : Byte) (body : List Byte) (s : State) : Host.Outcome State Fault Refusal :=
  .next (s.frameArrives .broadcast code body)

end Sys2Proof.Machine
end

