-- ==== Sys2Proof/Machine/Dispatch.lean ====
section
/-! DEFINITION. exec: one arm for each command, each one call of its meaning. -/

namespace Sys2Proof.Machine

def exec (i : Instr) (s : State) : Host.Outcome State Fault Refusal :=
  match i with
  | .plook body => Sys2Proof.Machine.execPlook body s
  | .plist body => Sys2Proof.Machine.execPlist body s
  | .pwrite body => Sys2Proof.Machine.execPwrite body s
  | .ptrim body => Sys2Proof.Machine.execPtrim body s
  | .pretire body => Sys2Proof.Machine.execPretire body s
  | .pkrd body => Sys2Proof.Machine.execPkrd body s
  | .lthrd body => Sys2Proof.Machine.execLthrd body s
  | .lunth body => Sys2Proof.Machine.execLunth body s
  | .lspd body => Sys2Proof.Machine.execLspd body s
  | .lclr body => Sys2Proof.Machine.execLclr body s
  | .lstat body => Sys2Proof.Machine.execLstat body s
  | .dstart body => Sys2Proof.Machine.execDstart body s
  | .dstop body => Sys2Proof.Machine.execDstop body s
  | .dstat body => Sys2Proof.Machine.execDstat body s
  | .rdg body => Sys2Proof.Machine.execRdg body s
  | .lbrk body => Sys2Proof.Machine.execLbrk body s
  | .lbrkBroadcast body => Sys2Proof.Machine.execLbrkBroadcast body s
  | .kstat body => Sys2Proof.Machine.execKstat body s
  | .beat broadcast body => Sys2Proof.Machine.execBeat broadcast body s
  | .atrd body => Sys2Proof.Machine.execAtrd body s
  | .atclr body => Sys2Proof.Machine.execAtclr body s
  | .atmsk body => Sys2Proof.Machine.execAtmsk body s
  | .scommit body => Sys2Proof.Machine.execScommit body s
  | .crd body => Sys2Proof.Machine.execCrd body s
  | .cwr body => Sys2Proof.Machine.execCwr body s
  | .srst body => Sys2Proof.Machine.execSrst body s
  | .stationReset straps => Sys2Proof.Machine.execStationReset straps s
  | .powerOn straps breakLevels => Sys2Proof.Machine.execPowerOn straps breakLevels s
  | .unknownRequest code body => Sys2Proof.Machine.execUnknownRequest code body s
  | .otherStationFrame address code body => Sys2Proof.Machine.execOtherStationFrame address code body s
  | .broadcastDiscard code body => Sys2Proof.Machine.execBroadcastDiscard code body s
  | .frameDiscard chars => Sys2Proof.Machine.execFrameDiscard chars s
  | .shortFrame chars => Sys2Proof.Machine.execShortFrame chars s
  | .overlongFrame chars extra => Sys2Proof.Machine.execOverlongFrame chars extra s
  | .answerEnd => Sys2Proof.Machine.execAnswerEnd s
  | .collision event => Sys2Proof.Machine.execCollision event s
  | .linkFree => Sys2Proof.Machine.execLinkFree s
  | .evaluation => Sys2Proof.Machine.execEvaluation s
  | .encoderWindow lane => Sys2Proof.Machine.execEncoderWindow lane s
  | .flowWindow => Sys2Proof.Machine.execFlowWindow s
  | .purgeFailed => Sys2Proof.Machine.execPurgeFailed s
  | .cooldownTimeout => Sys2Proof.Machine.execCooldownTimeout s
  | .residualHoldExpiry lane => Sys2Proof.Machine.execResidualHoldExpiry lane s
  | .decelGraceExpiry lane => Sys2Proof.Machine.execDecelGraceExpiry lane s
  | .bandLeadTimeout lane => Sys2Proof.Machine.execBandLeadTimeout lane s
  | .readingStale channel => Sys2Proof.Machine.execReadingStale channel s
  | .breakInputChange lane level => Sys2Proof.Machine.execBreakInputChange lane level s
  | .confirmedBreak lane => Sys2Proof.Machine.execConfirmedBreak lane s
  | .cadencePhaseEnd => Sys2Proof.Machine.execCadencePhaseEnd s
  | .masterSilent => Sys2Proof.Machine.execMasterSilent s
  | .slotWriteDone verified => Sys2Proof.Machine.execSlotWriteDone verified s
  | .linkFreeRelease => Sys2Proof.Machine.execLinkFreeRelease s
  | .answerBegin => Sys2Proof.Machine.execAnswerBegin s
  | .powerLoss => Sys2Proof.Machine.execPowerLoss s
  | .encoderEdge lane gapUs => Sys2Proof.Machine.execEncoderEdge lane gapUs s
  | .flowPulse gapUs => Sys2Proof.Machine.execFlowPulse gapUs s
end Sys2Proof.Machine
end

