-- ==== Sys2Proof/Machine/Time.lean ====
section
/-! DEFINITION. What happens while no command waits: one millisecond passes. Every running timer moves on by it, and
the expiries that fall due are taken one after another (DESIGN CHOICE, assumption 2), in an order that is a free value,
since the manual lets either of two that fall together be taken first (R27, R69, R89, R118). A timer whose end falls due
keeps its last millisecond until its command takes it to its end; where an expiry taken before has restarted or stopped
it, its own end is not due any more and is not taken (R49, R102, R121, R144). -/

namespace Sys2Proof.Machine

/-! ## One millisecond of a timer -/

/-- A timer that counts down falls due when it has at most one ms left. -/
def downDue (ms : Nat) : Bool := ms ≤ 1

/-- A timer that counts down, one ms later; at its last ms it waits for its command. -/
def down (ms : Nat) : Nat := if downDue ms then ms else ms - 1

/-- A timer that counts up to a limit falls due when one ms more reaches it. -/
def upDue (limit ms : Nat) : Bool := limit ≤ ms + 1

/-- A timer that counts up to a limit, one ms later; one ms before it, it waits for its command. -/
def up (limit ms : Nat) : Nat := if upDue limit ms then ms else ms + 1

/-! ## The expiries that fall due -/

/-- The time the answer takes on the line, in ms. -/
def State.answerMs (s : State) : Nat := charactersMs s.port.rate s.port.answer.length

/-- The ms the port waits before it begins its answer: a free value inside the answer window (assumption 4). -/
def State.answerDelay (s : State) : Nat := min (windowMs s.port.rate) (Config.answerDelayMs s.freeIndex)

/-- A timer that is idle or counts down falls due. -/
def optionDue : Option Nat → Bool
  | some ms => downDue ms
  | none => false

/-- The timer of an expiry runs and has come to its last millisecond. An answer that waits may begin at any moment of its
window (R132). -/
def State.isDue (s : State) : Instr → Bool
  | .decelGraceExpiry n => 0 < (s.lane n).graceMs && downDue (s.lane n).graceMs
  | .residualHoldExpiry n => (s.lane n).residual.isSome && downDue (s.lane n).residualMs
  | .bandLeadTimeout n =>
    (s.lane n).isLeading && decide ((s.lane n).leadMs < s.cal.values.leadTimeout * 1000) &&
      upDue (s.cal.values.leadTimeout * 1000) (s.lane n).leadMs
  | .confirmedBreak n => optionDue (s.breakInput n).timer
  | .encoderWindow n => upDue 500 (s.lane n).encoder.windowMs
  | .cadencePhaseEnd => optionDue (s.horn.cadence.map (·.leftMs))
  | .readingStale c => (s.reading c).fresh && upDue s.staleMs (s.reading c).ageMs
  | .masterSilent => s.heartbeat.armed && !s.heartbeat.silent && downDue s.heartbeat.timerMs
  | .slotWriteDone _ => (s.commit.map fun c => upDue 25 c.elapsedMs).getD false
  | .purgeFailed => s.dryer.state == .purge && upDue 600000 s.dryer.purgeMs
  | .cooldownTimeout => s.dryer.state == .cooldown && upDue 1800000 s.dryer.cooldownMs
  | .flowWindow => upDue 500 s.exhaust.windowMs
  | .shortFrame [] =>
    (s.port.state == .receive || s.port.state == .hold) && upDue (gapMs s.port.rate) s.port.idleMs
  | .answerBegin => s.port.state == .answer && !s.port.driving
  | .answerEnd => s.port.state == .answer && s.port.driving && upDue s.answerMs s.port.answerMs
  | .evaluation => upDue 500 s.arbiter.evalMs
  | _ => false

/-- Every expiry there is; whether a slot write verifies is a free value (assumption 11). -/
def State.expiries (s : State) : List Instr :=
  (LaneId.all.map fun n =>
    [.decelGraceExpiry n, .residualHoldExpiry n, .bandLeadTimeout n, .confirmedBreak n, .encoderWindow n]).flatten ++
  Channel.all.map .readingStale ++
  [.cadencePhaseEnd, .masterSilent, .slotWriteDone (Config.writeVerifies s.freeIndex), .purgeFailed, .cooldownTimeout,
   .flowWindow, .shortFrame [], .answerBegin, .answerEnd, .evaluation]

/-- The millisecond in which a waiting answer begins is a free value of that millisecond, the last of the window at the
latest (R132, assumption 4); it is read once, when the millisecond passes. Every other expiry falls due by its timer
alone. -/
def State.chosen (s : State) : Instr → Bool
  | .answerBegin => upDue s.answerDelay s.port.answerMs
  | _ => true

/-- Every expiry that falls due. -/
def State.dueEvents (s : State) : List Instr := s.expiries.filter fun i => s.isDue i && s.chosen i

/-- Commands put in an order that numbers choose: each number places its command among those after it. -/
def arranged (order : Nat → Nat) : List Instr → List Instr
  | [] => []
  | i :: is => (arranged order is).insertIdx (order is.length % (is.length + 1)) i

/-- The expiries that fall due in the order in which the part takes them, a free value (assumption 2). -/
def State.due (s : State) : List Instr := arranged (Config.dueOrder s.freeIndex) s.dueEvents

/-! ## The timers one millisecond later -/

/-- A lane record one ms later. An edge can no longer be too close to one before this ms. -/
def Lane.later (l : Lane) (leadLimit : Nat) : Lane :=
  { l with
    graceMs := down l.graceMs
    residualMs := if l.residual.isSome then down l.residualMs else l.residualMs
    leadMs := if l.isLeading && decide (l.leadMs < leadLimit) then up leadLimit l.leadMs else l.leadMs
    encoder := { l.encoder with sinceUs := 7, windowMs := up 500 l.encoder.windowMs } }

/-- A channel one ms later. -/
def Reading.later (r : Reading) (staleMs : Nat) : Reading :=
  if r.fresh then { r with ageMs := up staleMs r.ageMs } else r

/-- The reading table one ms later. -/
def Readings.later (r : Readings) (staleMs : Nat) : Readings :=
  let lane (n : LaneId) : LaneReadings :=
    let l := r.lanes.get n
    { zones := PerZone.form fun z => (l.zones.get z).later staleMs
      webExit := l.webExit.later staleMs
      chillExit := l.chillExit.later staleMs }
  { lanes := PerLane.form lane, analyzer := r.analyzer.later staleMs, chillWater := r.chillWater.later staleMs }

/-- The dryer's timers one ms later: the purge timer runs in PURGE, the cooldown timer in COOLDOWN (R83). -/
def Dryer.later (d : Dryer) : Dryer :=
  { d with
    purgeMs := if d.state = .purge then up 600000 d.purgeMs else d.purgeMs
    cooldownMs := if d.state = .cooldown then up 1800000 d.cooldownMs else d.cooldownMs }

/-- The port one ms later: the idle time counts while the line is free (R128, R134), and the answer waits or is
sent. -/
def State.portLater (s : State) : Port :=
  let p := s.port
  match p.state with
  | .answer =>
    { p with answerMs := if p.driving then up s.answerMs p.answerMs else up s.answerDelay p.answerMs }
  | .hunt => { p with idleMs := if p.held then 0 else min (gapMs p.rate) (p.idleMs + 1) }
  | _ => { p with idleMs := up (gapMs p.rate) p.idleMs }

/-- The heartbeat timer one ms later: it runs while armed and not silent (R144). -/
def Heartbeat.later (h : Heartbeat) : Heartbeat :=
  { h with timerMs := if h.armed && !h.silent then down h.timerMs else h.timerMs }

/-- Every timer one ms later. -/
def State.later (s : State) : State :=
  { s with
    lanes := PerLane.form fun n => (s.lane n).later (s.cal.values.leadTimeout * 1000)
    horn := { s.horn with cadence := s.horn.cadence.map fun c => { c with leftMs := down c.leftMs } }
    readings := s.readings.later s.staleMs
    heartbeat := s.heartbeat.later
    commit := s.commit.map fun c => { c with elapsedMs := up 25 c.elapsedMs }
    dryer := s.dryer.later
    breaks := PerLane.form fun n =>
      { s.breakInput n with timer := (s.breakInput n).timer.map down }
    exhaust := { s.exhaust with sinceUs := 7, windowMs := up 500 s.exhaust.windowMs }
    port := s.portLater
    arbiter := { s.arbiter with evalMs := up 500 s.arbiter.evalMs } }

/-- The free-value counter stepped where something fell due in this ms: its place in the order, the outcome of a slot
write or the delay of an answer was a free value. -/
def State.freeUsed (s : State) : Nat := s.freeIndex + s.dueEvents.length

/-- One millisecond passes: what falls due in it is owed. -/
def State.pass (s : State) : State := { s.later with owed := s.due, freeIndex := s.freeUsed }

/-- The first expiry that is owed posted as a command. -/
def State.post (s : State) : State :=
  match s.owed with
  | [] => s
  | i :: rest => { s with owed := rest, pending := [i] }

/-- What is owed of this millisecond, from the first expiry on whose timer is still at its end. -/
def State.stillOwed (s : State) : List Instr := s.owed.dropWhile fun i => !s.isDue i

/-- A step with no command waiting. A due station reset takes effect first, with the straps at their present levels
(R153); then come the expiries still owed of this millisecond, one a step; then the next millisecond passes. -/
def State.tick (s : State) : State :=
  if !s.powered then s
  else if s.resetDue then { s with pending := [.stationReset s.straps] }
  else match s.stillOwed with
    | [] => s.pass.post
    | owed => { s with owed := owed }.post

end Sys2Proof.Machine
end

