-- ==== Sys2Proof/Safety.lean ====
section
/-! DEFINITION. What a safe run is: the laws that the manual states of the part's records, each as a property of one
state; and the words in which the statements speak of frames and answers. -/

namespace Sys2Proof.Machine

/-! ## The laws -/

/-- The calibration law (R150, R33): a valid calibration has every value in its range; outside OFF the calibration is
valid; and the values in force, the defaults too, have a crawl speed and a ramp step that are multiples of 5 in their
ranges. -/
structure CalibrationLaw (s : State) : Prop where
  inRange : s.cal.valid = true → firstFailed (calibrationTests s.cal.values.toValues) = none
  validOutsideOff : s.dryer.state ≠ .off → s.cal.valid = true
  crawlRange : 10 ≤ s.cal.values.crawl ∧ s.cal.values.crawl ≤ 60 ∧ s.cal.values.crawl % 5 = 0
  rampRange : 5 ≤ s.cal.values.rampStep ∧ s.cal.values.rampStep ≤ 200 ∧ s.cal.values.rampStep % 5 = 0

/-- The fields of a profile within their ranges (R1, R2, R3); no two couples have one id. -/
structure ValidFields (f : ProfileFields) : Prop where
  key : 1 ≤ f.key ∧ f.key ≤ 65535
  width : 300 ≤ f.width ∧ f.width ≤ 1100
  coupleCount : 1 ≤ f.couples.length ∧ f.couples.length ≤ 8
  couples : ∀ c ∈ f.couples, 1 ≤ c.id ∧ c.id ≤ 8 ∧ c.coverage ≤ 400 ∧ c.rate ≤ 1000
  couplesDiffer : f.couples.Pairwise fun c d => c.id ≠ d.id
  bandCount : 1 ≤ f.bands.length ∧ f.bands.length ≤ 6
  bounds : ∀ b ∈ f.bands, 60 ≤ b.bound ∧ b.bound ≤ 1200 ∧ b.bound % 5 = 0
  setpoints : ∀ b ∈ f.bands, ∀ z, 100 ≤ b.setpoint z ∧ b.setpoint z ≤ 400
  exits : ∀ b ∈ f.bands,
    80 ≤ b.webExitMin ∧ b.webExitMin ≤ 180 ∧ 15 ≤ b.chillExitMax ∧ b.chillExitMax ≤ 45
  boundsAscend : f.bands.Pairwise fun a b => a.bound < b.bound
  tolerance : 5 ≤ f.tolerance ∧ f.tolerance ≤ 40
  override : ∀ v, f.override = some v → 5 ≤ v ∧ v ≤ 120

/-- A profile record within the ranges of its fields, its couples filed in ascending id (R2). -/
structure ValidProfile (p : Profile) : Prop extends ValidFields p.toProfileFields where
  couplesAscend : p.couples.Pairwise fun c d => c.id < d.id

/-- The table law (R7): records in strictly ascending job key, no two with one slot index, every slot index below 48;
and the store has its 48 profile slots (R146). -/
structure TableLaw (s : State) : Prop where
  keysAscend : s.profiles.Pairwise fun p q => p.key < q.key
  slotsDiffer : s.profiles.Pairwise fun p q => p.slot ≠ q.slot
  slotsBelow : ∀ p ∈ s.profiles, p.slot < 48
  storeSize : s.store.slots.length = 48

/-- Every record of the table is within its ranges (R1). -/
def ProfilesLaw (s : State) : Prop := ∀ p ∈ s.profiles, ValidProfile p

/-- How many lanes carry a job key. -/
def State.lanesBound (s : State) (key : Nat) : Nat :=
  (LaneId.all.filter fun n => (s.lane n).key == some key).length

/-- The binding law (R10, R43): a lane has a key exactly when it is not UNTHREADED, and the key is in the table; a
record's bind count is the number of lanes that carry its key; a RETIRE_PENDING record has a lane. -/
structure BindingLaw (s : State) : Prop where
  keyed : ∀ n, (s.lane n).key = none ↔ (s.lane n).state = .unthreaded
  present : ∀ n k, (s.lane n).key = some k → (findProfile s.profiles k).isSome
  counted : ∀ p ∈ s.profiles, p.bindCount = s.lanesBound p.key
  retiring : ∀ p ∈ s.profiles, p.retirePending = true → 1 ≤ p.bindCount

/-- The granted-speed law (R44). -/
structure SpeedLaw (s : State) : Prop where
  step : ∀ n, (s.lane n).g % 5 = 0
  atMostMax : ∀ n, (s.lane n).g ≤ maxSpeed (s.bandsOf n)
  stopped : ∀ n, (s.lane n).state.moving = false → (s.lane n).g = 0
  onlyHeating : ∀ n, s.dryer.state ≠ .heating → (s.lane n).g = 0
  crawling : ∀ n, (s.lane n).state = .threading ∨ (s.lane n).state = .ready → (s.lane n).g ≤ s.cal.values.crawl
  running : ∀ n, (s.lane n).state = .running → s.cal.values.crawl < (s.lane n).g

/-- The queue law (R64, R50): at most one entry for a lane; an entry exactly where there is a pending target; the lane
is in THREADING, READY or RUNNING; the target is a multiple of 5 above g and within the profile maximum; no entry
outside HEATING; a lead only for an entry, and above band(g). -/
structure QueueLaw (s : State) : Prop where
  nodup : s.arbiter.queue.Nodup
  target : ∀ n, n ∈ s.arbiter.queue ↔ (s.lane n).target ≠ none
  moving : ∀ n, n ∈ s.arbiter.queue → (s.lane n).state.moving = true
  above : ∀ n t, (s.lane n).target = some t → (s.lane n).g < t ∧ t % 5 = 0 ∧ t ≤ maxSpeed (s.bandsOf n)
  onlyHeating : s.dryer.state ≠ .heating → s.arbiter.queue = []
  lead : ∀ n d, (s.lane n).lead = some d →
    n ∈ s.arbiter.queue ∧ bandOf (s.bandsOf n) (s.lane n).g < d.band ∧ d.band ≤ (s.bandsOf n).length

/-- The lane law: what a lane record holds in each state (R43, R54, R55, R58, R62). -/
structure LaneLaw (s : State) : Prop where
  hold : ∀ n, (s.lane n).residual ≠ none → (s.lane n).state = .broke ∨ (s.lane n).state = .suspended
  broke : ∀ n, (s.lane n).state = .broke → (s.lane n).residual ≠ none
  unjudged : ∀ n, (s.lane n).state.moving = false → (s.lane n).overspeed = false ∧ (s.lane n).overCount = 0
  hotWeb : ∀ n, (s.lane n).state ≠ .running → (s.lane n).hotWeb = 0
  counts : ∀ n, (s.lane n).overCount ≤ 2 ∧ (s.lane n).hotWeb ≤ 9 ∧ (s.lane n).measured ≤ 1500

/-- The in-band law (R47, R79, R105): the zone supervisor's state of each lane is what its zones now say; a THREADING
lane is not in band, a READY lane is, and a LEADING lane is not. -/
structure InBandLaw (s : State) : Prop where
  formed : ∀ n, (s.lane n).inBand = s.zonesInBand n
  threading : ∀ n, (s.lane n).state = .threading → (s.lane n).inBand ≠ some true
  ready : ∀ n, (s.lane n).state = .ready → (s.lane n).inBand = some true
  leading : ∀ n, (s.lane n).isLeading = true → (s.lane n).inBand ≠ some true

/-- The figures law (R29, R33, R145): the active limit, the fan demand and the output lines are what the records now
make them. -/
structure FiguresLaw (s : State) : Prop where
  limit : s.load.activeLimit = s.formLimit
  demand : s.load.fanDemand = s.formDemand
  lines : s.lines = s.formLines

/-- The horn law (R120, R122): the continuous condition holds exactly while SAFE_HOLD or FLOW_LOST is latched, and no
cadence runs meanwhile. -/
structure HornLaw (s : State) : Prop where
  condition : s.horn.continuous = (s.attention.isLatched .safeHold || s.attention.isLatched .flowLost)
  noCadence : s.horn.continuous = true → s.horn.cadence = none

/-- The count law: the saturating and bounded figures stay in their ranges (R36, R73, R85, R130, R142). -/
structure CountLaw (s : State) : Prop where
  peak : s.load.peak ≤ 999 ∧ s.load.estimated ≤ 999
  excess : s.arbiter.excess ≤ 2
  zeroRun : s.exhaust.zeroRun ≤ 3
  link : s.port.discarded ≤ 65535 ∧ s.port.collisions ≤ 65535
  mask : s.attention.mask &&& ~~~routineCauses = 0

/-- Every law together: the states that the part can be in. -/
structure Lawful (s : State) : Prop where
  calibration : CalibrationLaw s
  table : TableLaw s
  profiles : ProfilesLaw s
  binding : BindingLaw s
  speed : SpeedLaw s
  queue : QueueLaw s
  lane : LaneLaw s
  inBand : InBandLaw s
  figures : FiguresLaw s
  horn : HornLaw s
  counts : CountLaw s

/-! ## Frames -/

/-- The records of State, but for the queue of commands. -/
inductive Part where
  | powered | straps | profiles | marks | cal | load | lane (n : LaneId) | arbiter | exhaust | dryer | readings | cuts
  | breaks | horn | port | resetAccepted | attention | heartbeat | store | commit | lines | freeIndex | owed
  deriving DecidableEq, Repr

/-- A record is the same in two states. -/
def Part.same : Part → State → State → Prop
  | .powered, s, t => t.powered = s.powered
  | .straps, s, t => t.straps = s.straps
  | .profiles, s, t => t.profiles = s.profiles
  | .marks, s, t => t.marks = s.marks
  | .cal, s, t => t.cal = s.cal
  | .load, s, t => t.load = s.load
  | .lane n, s, t => t.lane n = s.lane n
  | .arbiter, s, t => t.arbiter = s.arbiter
  | .exhaust, s, t => t.exhaust = s.exhaust
  | .dryer, s, t => t.dryer = s.dryer
  | .readings, s, t => t.readings = s.readings
  | .cuts, s, t => t.cuts = s.cuts
  | .breaks, s, t => t.breaks = s.breaks
  | .horn, s, t => t.horn = s.horn
  | .port, s, t => t.port = s.port
  | .resetAccepted, s, t => t.resetAccepted = s.resetAccepted
  | .attention, s, t => t.attention = s.attention
  | .heartbeat, s, t => t.heartbeat = s.heartbeat
  | .store, s, t => t.store = s.store
  | .commit, s, t => t.commit = s.commit
  | .lines, s, t => t.lines = s.lines
  | .freeIndex, s, t => t.freeIndex = s.freeIndex
  | .owed, s, t => t.owed = s.owed

/-- Every record but those named is the same in `t` as in `s`, and so are the commands that wait. -/
def KeepsAllBut (changed : List Part) (s t : State) : Prop :=
  (∀ p, p ∉ changed → p.same s t) ∧ t.pending = s.pending

/-! ## Requests and answers -/

/-- The port can take a frame addressed to the part at once: the part has its supply, no station reset is awaited, the
link-free input is not held low, the port hunts, and it has a station address (R125, R128, R134, R153). -/
structure Listening (s : State) : Prop where
  powered : s.powered = true
  noReset : s.resetAccepted = false
  free : s.port.held = false
  hunts : s.port.state = .hunt

/-- Listening, with a station address (R125). -/
structure ListeningAt (s : State) : Prop extends Listening s where
  address : s.port.address ≠ 0

/-- The port that a hunting port becomes when it has taken a request addressed to it and its answer is prepared (R131,
R132): in ANSWER, not yet driving, the line idle for 4 character times. -/
def answering (p : Port) (code : Byte) (r : Reply) : Port :=
  { p with
    state := .answer, rx := [], idleMs := gapMs p.rate, answer := answerFrame p.address code r, answerMs := 0,
    driving := false }

/-- The state in which a request has been answered and nothing else has happened. -/
def onlyAnswered (s : State) (code : Byte) (r : Reply) : State := { s with port := answering s.port code r }

/-- The command brings the state to `t`, the port holds the answer `r`, and beside the records named nothing has
changed. -/
structure Answers (c : Instr) (s : State) (code : Byte) (r : Reply) (changed : List Part) (t : State) : Prop where
  next : exec c s = .next t
  port : t.port = answering s.port code r
  keeps : KeepsAllBut (.port :: changed) s t

/-- The four lane records. -/
def everyLane : List Part := LaneId.all.map Part.lane

/-- The fan demand and the output lines of `t` are formed afresh from its records, and the load computer's other
records are those of `s` (R33, R145). -/
structure FormedFrom (s t : State) : Prop where
  load : t.load = { s.load with fanDemand := t.formDemand }
  lines : t.lines = t.formLines

/-- A lane of `s` that has been stopped in `t` with a residual hold (R54, R58): its load just before is its residual
load, for the length of the hold; it has no speed, no target, no lead and no queue entry, and is not judged; its decel
grace starts for a break, and for a suspension where it had speed. -/
structure Stopped (s t : State) (n : LaneId) (state : LaneState) : Prop where
  state : (t.lane n).state = state
  key : (t.lane n).key = (s.lane n).key
  residual : (t.lane n).residual = some (s.laneLoad n)
  hold : (t.lane n).residualMs = (((s.profileOf n).bind (·.override)).getD s.cal.values.residualHold) * 1000
  g : (t.lane n).g = 0
  target : (t.lane n).target = none
  lead : (t.lane n).lead = none ∧ (t.lane n).leadMs = 0
  queue : n ∉ t.arbiter.queue
  unjudged : (t.lane n).overspeed = false ∧ (t.lane n).overCount = 0
  hotWeb : (s.lane n).state = .running → (t.lane n).hotWeb = 0
  grace : (t.lane n).graceMs =
    if (t.lane n).state = .broke ∨ 0 < (s.lane n).g then s.cal.values.decelGrace * 1000 else (s.lane n).graceMs

/-- The body of a PWRITE that carries fields (R155): the header of 8 bytes, the couples and the bands. -/
def pwriteBody (f : ProfileFields) : List Byte :=
  be2 f.key ++ be2 f.width ++
  [byteOf f.tolerance, byteOf (f.override.getD 0), byteOf f.couples.length, byteOf f.bands.length] ++ f.entryBytes

/-- The body of a request that names one lane (R163). -/
def laneBody (n : LaneId) : List Byte := [byteOf n.number]

/-- What a confirmed break does to the lane, the causes, the queue and the horn (R54, R114, R121). -/
structure BreakEffect (s t : State) (n : LaneId) : Prop where
  taken : (s.lane n).state.moving = true →
    Stopped s t n .broke ∧ (t.lane n).graceMs = s.cal.values.decelGrace * 1000 ∧
    t.attention = { s.attention with
      latched := s.attention.latched ||| 1
      sets := { s.attention.sets with webBreak := s.attention.sets.webBreak ||| n.bit } } ∧
    t.arbiter = { s.arbiter with queue := s.arbiter.queue.filter (· ≠ n) } ∧
    t.horn = (if s.horn.continuous = true then s.horn else ⟨some ⟨true, 1, 500⟩, false⟩) ∧
    ∀ z, (t.lines.burners.get n).get z = false
  passed : (s.lane n).state.moving = false →
    t.lane n = s.lane n ∧ t.attention = s.attention ∧ t.arbiter = s.arbiter ∧ t.horn = s.horn

/-- A lane that a heating dryer takes out of SUSPENDED (R59): THREADING, or READY where its zones are in band, without
residual load; its other records stay. -/
def resumed (s t : State) (n : LaneId) : Prop :=
  t.lane n = { s.lane n with
    state := if s.zonesInBand n = some true then .ready else .threading, residual := none, residualMs := 0 }

/-- The port of a hunting port that has taken or passed over a frame without an answer (R131). -/
def huntingOn (p : Port) : Port :=
  { p with state := .hunt, rx := [], answer := [], answerMs := 0, driving := false, idleMs := gapMs p.rate }

/-- The port that has discarded a frame (R130), its line idle for so many ms. -/
def discarding (p : Port) (kind : LinkError) (idleMs : Nat) : Port :=
  { p with state := .hunt, rx := [], lastError := kind, discarded := min 65535 (p.discarded + 1), idleMs := idleMs }

/-- The port that has abandoned its answer for a collision (R133). -/
def colliding (p : Port) : Port :=
  { p with
    state := .hunt, rx := [], answer := [], answerMs := 0, driving := false, idleMs := 0, lastError := .collision,
    collisions := min 65535 (p.collisions + 1) }

/-- One trim item, as its bytes spell it, turns the fields of a working copy into others (R20, R156); the copy as a
whole is not tested here. -/
inductive Trims (f : ProfileFields) : List Byte → ProfileFields → Prop
  | coverage (id v1 v0 : Byte) : (∃ c ∈ f.couples, c.id = id.toNat) → v1.toNat * 256 + v0.toNat ≤ 400 →
      Trims f [1, id, v1, v0] { f with couples := f.couples.map fun c =>
        if c.id = id.toNat then { c with coverage := v1.toNat * 256 + v0.toNat } else c }
  | rate (id v1 v0 : Byte) : (∃ c ∈ f.couples, c.id = id.toNat) → v1.toNat * 256 + v0.toNat ≤ 1000 →
      Trims f [2, id, v1, v0] { f with couples := f.couples.map fun c =>
        if c.id = id.toNat then { c with rate := v1.toNat * 256 + v0.toNat } else c }
  | add (c : Couple) (cs : List Couple) : 1 ≤ c.id → c.id ≤ 8 → c.coverage ≤ 400 → c.rate ≤ 1000 →
      f.couples.length < 8 → cs.Perm (c :: f.couples) → cs.Pairwise (fun d e => d.id < e.id) →
      Trims f (3 :: be3 (c.id * 1048576 + c.rate * 1024 + c.coverage)) { f with couples := cs }
  | remove (id : Byte) : (∃ c ∈ f.couples, c.id = id.toNat) →
      Trims f [4, id] { f with couples := f.couples.filter fun c => c.id ≠ id.toNat }
  | temperature (k field v1 v0 : Byte) (b c : Band) : 1 ≤ k.toNat → f.bands[k.toNat - 1]? = some b →
      (field = 1 ∧ c = { b with z1 := v1.toNat * 256 + v0.toNat } ∧ 100 ≤ c.z1 ∧ c.z1 ≤ 400 ∨
        field = 2 ∧ c = { b with z2 := v1.toNat * 256 + v0.toNat } ∧ 100 ≤ c.z2 ∧ c.z2 ≤ 400 ∨
        field = 3 ∧ c = { b with z3 := v1.toNat * 256 + v0.toNat } ∧ 100 ≤ c.z3 ∧ c.z3 ≤ 400 ∨
        field = 4 ∧ c = { b with webExitMin := v1.toNat * 256 + v0.toNat } ∧ 80 ≤ c.webExitMin ∧ c.webExitMin ≤ 180 ∨
        field = 5 ∧ c = { b with chillExitMax := v1.toNat * 256 + v0.toNat } ∧ 15 ≤ c.chillExitMax ∧
          c.chillExitMax ≤ 45) →
      Trims f [5, k, field, v1, v0] { f with bands := f.bands.set (k.toNat - 1) c }
  | bound (k v1 v0 : Byte) (b : Band) : 1 ≤ k.toNat → f.bands[k.toNat - 1]? = some b →
      60 ≤ v1.toNat * 256 + v0.toNat → v1.toNat * 256 + v0.toNat ≤ 1200 → (v1.toNat * 256 + v0.toNat) % 5 = 0 →
      Trims f [6, k, v1, v0] { f with
        bands := f.bands.set (k.toNat - 1) { b with bound := v1.toNat * 256 + v0.toNat } }
  | tolerance (v : Byte) : 5 ≤ v.toNat → v.toNat ≤ 40 → Trims f [7, v] { f with tolerance := v.toNat }
  | override (v : Byte) : 5 ≤ v.toNat → v.toNat ≤ 120 → Trims f [8, v] { f with override := some v.toNat }
  | clear : Trims f [9] { f with override := none }

/-- Trim items applied one after another, each to the copy as those before it have left it (R20). -/
inductive TrimsAll : ProfileFields → List (List Byte) → ProfileFields → Prop
  | done (f : ProfileFields) : TrimsAll f [] f
  | item {f g h : ProfileFields} {i : List Byte} {is : List (List Byte)} :
      Trims f i g → TrimsAll g is h → TrimsAll f (i :: is) h

/-- The lengths of the nine kinds of trim item, its kind byte included (R156). -/
def itemLengths : List Nat := [4, 4, 4, 2, 5, 4, 2, 2, 1]

/-- The bytes of one item of a kind of the table, of that kind's length (R156). -/
def ItemShape (item : List Byte) : Prop :=
  ∃ kind rest, item = kind :: rest ∧ 1 ≤ kind.toNat ∧ itemLengths[kind.toNat - 1]? = some item.length

/-- Among the items the one at a position, counted from 1, is the last of its kind (R21). -/
def LastOfKind (kind : Byte) (items : List (List Byte)) (position : Nat) : Prop :=
  1 ≤ position ∧ (∃ item, items[position - 1]? = some item ∧ item.head? = some kind) ∧
    ∀ j item, position ≤ j → items[j]? = some item → item.head? ≠ some kind

/-- Every value of the fields fits its place in a PWRITE body, whether or not it is in its range (R155). -/
structure Encodable (f : ProfileFields) : Prop where
  header : f.key < 65536 ∧ f.width < 65536 ∧ f.tolerance < 256 ∧ ∀ v, f.override = some v → 1 ≤ v ∧ v < 256
  couples : 1 ≤ f.couples.length ∧ f.couples.length ≤ 8 ∧
    ∀ c ∈ f.couples, c.id < 16 ∧ c.coverage < 1024 ∧ c.rate < 1024
  bands : 1 ≤ f.bands.length ∧ f.bands.length ≤ 6 ∧
    ∀ b ∈ f.bands, b.bound < 65536 ∧ b.z1 < 65536 ∧ b.z2 < 65536 ∧ b.z3 < 65536 ∧ b.webExitMin < 256 ∧
      b.chillExitMax < 256

/-- The field of an index is in its range (R16); an index of no field is. Couples and bands are counted from 0. -/
structure FieldGood (f : ProfileFields) (index : Nat) : Prop where
  key : index = 1 → 1 ≤ f.key ∧ f.key ≤ 65535
  width : index = 2 → 300 ≤ f.width ∧ f.width ≤ 1100
  tolerance : index = 3 → 5 ≤ f.tolerance ∧ f.tolerance ≤ 40
  override : index = 4 → ∀ v, f.override = some v → 5 ≤ v ∧ v ≤ 120
  coupleId : ∀ n c, f.couples[n]? = some c → index = 8 + 3 * n →
    1 ≤ c.id ∧ c.id ≤ 8 ∧ ∀ m d, m < n → f.couples[m]? = some d → d.id ≠ c.id
  coverage : ∀ n c, f.couples[n]? = some c → index = 9 + 3 * n → c.coverage ≤ 400
  rate : ∀ n c, f.couples[n]? = some c → index = 10 + 3 * n → c.rate ≤ 1000
  bound : ∀ n b, f.bands[n]? = some b → index = 32 + 6 * n → 60 ≤ b.bound ∧ b.bound ≤ 1200 ∧ b.bound % 5 = 0 ∧
    ∀ a, 1 ≤ n → f.bands[n - 1]? = some a → a.bound < b.bound
  z1 : ∀ n b, f.bands[n]? = some b → index = 33 + 6 * n → 100 ≤ b.z1 ∧ b.z1 ≤ 400
  z2 : ∀ n b, f.bands[n]? = some b → index = 34 + 6 * n → 100 ≤ b.z2 ∧ b.z2 ≤ 400
  z3 : ∀ n b, f.bands[n]? = some b → index = 35 + 6 * n → 100 ≤ b.z3 ∧ b.z3 ≤ 400
  webExitMin : ∀ n b, f.bands[n]? = some b → index = 36 + 6 * n → 80 ≤ b.webExitMin ∧ b.webExitMin ≤ 180
  chillExitMax : ∀ n b, f.bands[n]? = some b → index = 37 + 6 * n → 15 ≤ b.chillExitMax ∧ b.chillExitMax ≤ 45

/-! ## Evaluations -/

/-- The budget of a lane under a capacity load: what the capacity leaves beside the loads of the others (R38). -/
def budgetOf (s : State) (n : LaneId) : Int := (s.capacity : Int) - ((s.totalLoad : Int) - (s.laneLoad n : Int))

/-- A lane stands before another for a lowering: the higher stamp, or the higher number at equal stamps (R65). -/
def StandsBefore (s : State) (m n : LaneId) : Prop :=
  (s.lane n).stamp.toNat < (s.lane m).stamp.toNat ∨
    (s.lane m).stamp = (s.lane n).stamp ∧ n.number < m.number

/-- The RUNNING lane that a lowering takes first (R65). -/
def FirstToLower (s : State) (n : LaneId) : Prop :=
  (s.lane n).state = .running ∧ ∀ m, m ≠ n → (s.lane m).state = .running → StandsBefore s n m

/-- The chill exit of a lane is fresh and more than 5 °C above the maximum of band(g) (R75). -/
def WebTooHot (s : State) (n : LaneId) : Prop :=
  (s.reading (.chillExit n)).fresh = true ∧ ∃ v, (s.reading (.chillExit n)).value = some v ∧
    ((bandAt (s.bandsOf n) (bandOf (s.bandsOf n) (s.lane n).g)).chillExitMax : Int) + 5 < v

/-- No lane's hot-web count reaches 10 at the evaluation of `s` (R75). -/
def NoHotWebStep (s : State) : Prop :=
  ∀ n, (s.lane n).state = .running → WebTooHot s n → (s.lane n).hotWeb < 9

/-- A lane lowered by the arbiter in an evaluation (R49, R71): its grace starts, its lead goes, and its target, entry
and stamp stay; it is RUNNING no more exactly where it is at crawl. -/
structure LoweredIn (s t : State) (n : LaneId) (speed : Nat) : Prop where
  g : (t.lane n).g = speed
  grace : (t.lane n).graceMs = s.cal.values.decelGrace * 1000
  lead : (t.lane n).lead = none ∧ (t.lane n).leadMs = 0
  target : (t.lane n).target = (s.lane n).target
  entry : n ∈ t.arbiter.queue ↔ n ∈ s.arbiter.queue
  stamp : (t.lane n).stamp = (s.lane n).stamp
  running : (t.lane n).state = .running ↔ s.cal.values.crawl < speed

/-! ## Timers -/

/-- An expiry is among those that a step has posted or owes. -/
def Awaits (t : State) (i : Instr) : Prop := i ∈ t.pending ∨ i ∈ t.owed

/-- A timer that counts down moves on by one ms; at its last ms it waits for its expiry. -/
def CountsDown (before after : Nat) (i : Instr) (t : State) : Prop :=
  (2 ≤ before → after + 1 = before) ∧ (before ≤ 1 → after = before ∧ Awaits t i)

/-- A timer that counts up to a limit moves on by one ms; one ms before the limit it waits for its expiry. -/
def CountsUp (limit before after : Nat) (i : Instr) (t : State) : Prop :=
  (before + 1 < limit → after = before + 1) ∧ (limit ≤ before + 1 → after = before ∧ Awaits t i)

/-! ## Restarts -/

/-- A profile slot of the store holds, as read, an image of a valid record (R149). -/
def YieldsAt (t : State) (i : Nat) (image : ProfileImage) : Prop :=
  ∃ c, t.store.slots[i]? = some c ∧ readProfileSlot c = some (some image) ∧ firstFailed image.tests = none

/-- It is the lowest slot that yields its key, so that its record is taken (R149). -/
def TakenAt (t : State) (i : Nat) (image : ProfileImage) : Prop :=
  YieldsAt t i image ∧ ∀ j, j < i → ∀ other, YieldsAt t j other → other.key ≠ image.key

/-- Every block at its values for after power-on or station reset, with given strap and break line levels, the store
read again (R149, R150): the working records of `t` but its port's counts, over the store as it stands. Every slot is
erased, yields a record, or is lost and counted. That no edge is too close to one before the reset and that the timer of
a supervisor never armed is 0 are the model's choices (assumptions 13, 14), which these records carry with them. -/
structure Restarted (t : State) (straps : Straps) (level : LaneId → Bool) : Prop where
  powered : t.powered = true
  pins : t.straps = straps
  lanes : ∀ n, t.lane n = State.reset.lane n
  readings : t.readings = State.reset.readings ∧ t.cuts = State.reset.cuts
  dryer : t.dryer = State.reset.dryer ∧ t.exhaust = State.reset.exhaust ∧ t.arbiter = State.reset.arbiter
  breaks : ∀ n, t.breakInput n = ⟨level n, none⟩
  horn : t.horn = State.reset.horn
  heartbeat : t.heartbeat = State.reset.heartbeat
  port : t.port.state = .hunt ∧ t.port.rx = [] ∧ t.port.idleMs = 0 ∧ t.port.rate = straps.rate ∧
    t.port.address = straps.address
  causes : t.attention.latched = if t.attention.slotsLost = 0 then 0 else 0x10000
  lost : t.attention.slotsLost + t.profiles.length +
    (t.store.slots.filter fun c => readProfileSlot c = some none).length = t.store.slots.length
  attention : t.attention = { State.reset.attention with
    latched := t.attention.latched, slotsLost := t.attention.slotsLost }
  load : t.load = ⟨t.cal.values.normalLimit, 0, 0, 0⟩
  lines : t.lines = State.reset.lines
  marks : t.marks = 0 ∧ t.cal.changed = false
  idle : t.commit = none ∧ t.resetAccepted = false ∧ t.owed = []
  unbound : ∀ p ∈ t.profiles, p.retirePending = false ∧ p.bindCount = 0
  ascending : t.profiles.Pairwise fun p q => p.key < q.key
  yielded : ∀ p ∈ t.profiles, ∃ image, TakenAt t p.slot image ∧ p.key = image.key
  taken : ∀ i image, TakenAt t i image → ∃ couples, couples.Perm image.couples ∧
    couples.Pairwise (fun c d => c.id < d.id) ∧
    { image with couples := couples, retirePending := false, bindCount := 0, slot := i } ∈ t.profiles
  erased : t.store = State.reset.store → t.profiles = [] ∧ t.cal = State.reset.cal ∧ t.attention.latched = 0
  calibration : ∀ v, t.store.calibration = .image v → v.length = 29 → firstFailed (calibrationTests v) = none →
    t.cal = ⟨.ofValues v, true, false⟩
  noCalibration : t.store.calibration = .erased ∨ t.store.calibration = .damaged → t.cal = State.reset.cal

end Sys2Proof.Machine
end

