-- ==== Sys2Proof/WellFormed.lean ====
section
/-! DEFINITION. Which commands the outside can really send: the operands agree with what the row's event is. An
ill-formed command still has a meaning; what it names is then not an event of that row. -/

namespace Sys2Proof

open Sys2Proof.Machine

/-- A body fits a frame: at most 96 characters (R126). -/
def bodyFits (body : List Byte) : Bool := body.length ≤ 96

/-- A broadcast frame that the part takes: BEAT without a body, LBRK with one lane number from 0 to 4 (R131, R116,
R143). -/
def takenBroadcast (code : Byte) (body : List Byte) : Bool :=
  (code == codeBeat && body == []) ||
  (code == codeLbrk && match body with
    | [lane] => lane.toNat ≤ 4
    | _ => false)

/-- The characters begin with a frame start and have no other pause (R128). -/
def startsFrame : List LineChar → Bool
  | [] => false
  | c :: cs => c.afterGap && cs.all fun d => !d.afterGap

/-- No character is bad (R124). -/
def allGood (chars : List LineChar) : Bool := chars.all fun c => !c.bad

/-- The data of characters. -/
def dataOf (chars : List LineChar) : List Byte := chars.map (·.data)

/-- Characters that make a whole good frame (R126, R127). -/
def wholeGoodFrame (chars : List LineChar) : Bool :=
  allGood chars && frameGood (dataOf chars) && match dataOf chars with
    | _ :: _ :: length :: rest => length.toNat ≤ 96 && rest.length == length.toNat + 2
    | _ => false

/-- Fewer characters than a whole frame has, none bad (R128). -/
def partialFrame (chars : List LineChar) : Bool :=
  allGood chars && match dataOf chars with
    | _ :: _ :: length :: rest => length.toNat ≤ 96 && rest.length < length.toNat + 2
    | cs => cs.length ≤ 2

/-- The operands of a command agree with its row. -/
def Instr.wellFormed : Instr → Bool
  | .plook b | .plist b | .pwrite b | .ptrim b | .pretire b | .pkrd b | .lthrd b | .lunth b | .lspd b | .lclr b
  | .lstat b | .dstart b | .dstop b | .dstat b | .rdg b | .lbrk b | .lbrkBroadcast b | .kstat b | .beat _ b
  | .atrd b | .atclr b | .atmsk b | .scommit b | .crd b | .cwr b | .srst b => bodyFits b
  | .stationReset _ => true
  | .powerOn _ _ => true
  | .unknownRequest code b => bodyFits b && !requestCodes.contains code
  | .otherStationFrame address _ b => bodyFits b && address != 0
  | .broadcastDiscard code b => bodyFits b && !takenBroadcast code b
  | .frameDiscard chars => startsFrame chars && !wholeGoodFrame chars && !partialFrame chars
  | .shortFrame chars => chars == [] || (startsFrame chars && partialFrame chars)
  | .overlongFrame chars _ => chars == [] || (startsFrame chars && wholeGoodFrame chars)
  | .answerEnd => true
  | .collision (.readback _ _) => true
  | .collision (.busyLine _) => true
  | .linkFree => true
  | .evaluation => true
  | .encoderWindow _ => true
  | .flowWindow => true
  | .purgeFailed => true
  | .cooldownTimeout => true
  | .residualHoldExpiry _ => true
  | .decelGraceExpiry _ => true
  | .bandLeadTimeout _ => true
  | .readingStale _ => true
  | .breakInputChange _ _ => true
  | .confirmedBreak _ => true
  | .cadencePhaseEnd => true
  | .masterSilent => true
  | .slotWriteDone _ => true
  | .linkFreeRelease => true
  | .answerBegin => true
  | .powerLoss => true
  | .encoderEdge _ _ => true
  | .flowPulse _ => true

end Sys2Proof
end

