-- ==== Sys2Proof/Certificates/Slice0/Obligations.lean ====
section
/-! DEFINITION. The statements about the part, each a Prop for the provers. -/

open Sys2Proof Sys2Proof.Machine

/-! ## The machine -/

/-- Step takes the command at the front of the queue and runs it on the state with the queue's rest. The queue is the
model's (assumption 1). -/
def Obligations.StepRunsFrontCommand : Prop :=
  ∀ (s : State) (c : Instr) (rest : List Instr), s.pending = c :: rest → step s = exec c { s with pending := rest }

/-- With no command waiting, a powered part with no reset due lets one ms pass (assumption 2): every running timer moves
on by it, or stands at its last ms and has its expiry posted or owed; no edge is too close to one before any more
(assumption 13); no other record changes but the counter of free values (assumption 8), and no expiry is posted or owed
that is not due. Expiries owed of a ms come first, one a step, and one whose timer is no longer at its end is
dropped. -/
def Obligations.IdleStepPassesOneMillisecond : Prop :=
  ∀ s : State, s.pending = [] → s.powered = true → s.resetDue = false →
    (s.owed = [] → ∃ t, step s = .next t ∧
      t.powered = s.powered ∧ t.straps = s.straps ∧ t.profiles = s.profiles ∧ t.marks = s.marks ∧ t.cal = s.cal ∧
      t.load = s.load ∧ t.cuts = s.cuts ∧ t.resetAccepted = s.resetAccepted ∧ t.attention = s.attention ∧
      t.store = s.store ∧ t.lines = s.lines ∧
      t.arbiter = { s.arbiter with evalMs := t.arbiter.evalMs } ∧
      CountsUp 500 s.arbiter.evalMs t.arbiter.evalMs .evaluation t ∧
      t.exhaust = { s.exhaust with sinceUs := 7, windowMs := t.exhaust.windowMs } ∧
      CountsUp 500 s.exhaust.windowMs t.exhaust.windowMs .flowWindow t ∧
      t.dryer = { s.dryer with purgeMs := t.dryer.purgeMs, cooldownMs := t.dryer.cooldownMs } ∧
      (if s.dryer.state = .purge then CountsUp 600000 s.dryer.purgeMs t.dryer.purgeMs .purgeFailed t
        else t.dryer.purgeMs = s.dryer.purgeMs) ∧
      (if s.dryer.state = .cooldown then CountsUp 1800000 s.dryer.cooldownMs t.dryer.cooldownMs .cooldownTimeout t
        else t.dryer.cooldownMs = s.dryer.cooldownMs) ∧
      t.heartbeat = { s.heartbeat with timerMs := t.heartbeat.timerMs } ∧
      (if s.heartbeat.armed = true ∧ s.heartbeat.silent = false then
        CountsDown s.heartbeat.timerMs t.heartbeat.timerMs .masterSilent t
        else t.heartbeat.timerMs = s.heartbeat.timerMs) ∧
      t.horn.continuous = s.horn.continuous ∧ t.horn.cadence.isSome = s.horn.cadence.isSome ∧
      (∀ c, s.horn.cadence = some c → ∀ d, t.horn.cadence = some d →
        d = { c with leftMs := d.leftMs } ∧ CountsDown c.leftMs d.leftMs .cadencePhaseEnd t) ∧
      t.commit.isSome = s.commit.isSome ∧
      (∀ c, s.commit = some c → ∀ d, t.commit = some d →
        d = { c with elapsedMs := d.elapsedMs } ∧ (c.elapsedMs + 1 < 25 → d.elapsedMs = c.elapsedMs + 1) ∧
        (25 ≤ c.elapsedMs + 1 → d.elapsedMs = c.elapsedMs ∧ ∃ v, Awaits t (.slotWriteDone v))) ∧
      (∀ n, t.lane n = { s.lane n with
          graceMs := (t.lane n).graceMs, residualMs := (t.lane n).residualMs, leadMs := (t.lane n).leadMs
          encoder := { (s.lane n).encoder with sinceUs := 7, windowMs := (t.lane n).encoder.windowMs } } ∧
        (if 0 < (s.lane n).graceMs then CountsDown (s.lane n).graceMs (t.lane n).graceMs (.decelGraceExpiry n) t
          else (t.lane n).graceMs = 0) ∧
        (if (s.lane n).residual = none then (t.lane n).residualMs = (s.lane n).residualMs
          else CountsDown (s.lane n).residualMs (t.lane n).residualMs (.residualHoldExpiry n) t) ∧
        (if (s.lane n).isLeading = true ∧ (s.lane n).leadMs < s.cal.values.leadTimeout * 1000 then
          CountsUp (s.cal.values.leadTimeout * 1000) (s.lane n).leadMs (t.lane n).leadMs (.bandLeadTimeout n) t
          else (t.lane n).leadMs = (s.lane n).leadMs) ∧
        CountsUp 500 (s.lane n).encoder.windowMs (t.lane n).encoder.windowMs (.encoderWindow n) t ∧
        (t.breakInput n).level = (s.breakInput n).level ∧
        (t.breakInput n).timer.isSome = (s.breakInput n).timer.isSome ∧
        ∀ a, (s.breakInput n).timer = some a → ∀ b, (t.breakInput n).timer = some b →
          CountsDown a b (.confirmedBreak n) t) ∧
      (∀ c, t.reading c = { s.reading c with ageMs := (t.reading c).ageMs } ∧
        if (s.reading c).fresh = true then
          CountsUp (s.cal.values.staleAge * 1000) (s.reading c).ageMs (t.reading c).ageMs (.readingStale c) t
        else (t.reading c).ageMs = (s.reading c).ageMs) ∧
      t.port = { s.port with idleMs := t.port.idleMs, answerMs := t.port.answerMs } ∧
      (s.port.state = .hunt → t.port.answerMs = s.port.answerMs ∧
        t.port.idleMs = if s.port.held = true then 0 else min (gapMs s.port.rate) (s.port.idleMs + 1)) ∧
      (s.port.state = .receive ∨ s.port.state = .hold → t.port.answerMs = s.port.answerMs ∧
        CountsUp (gapMs s.port.rate) s.port.idleMs t.port.idleMs (.shortFrame []) t) ∧
      (s.port.state = .answer → t.port.idleMs = s.port.idleMs ∧
        (s.port.driving = true → CountsUp (charactersMs s.port.rate s.port.answer.length) s.port.answerMs
          t.port.answerMs .answerEnd t) ∧
        (s.port.driving = false → (t.port.answerMs = s.port.answerMs + 1 ∨
            t.port.answerMs = s.port.answerMs ∧ Awaits t .answerBegin) ∧
          (windowMs s.port.rate ≤ s.port.answerMs + 1 → Awaits t .answerBegin))) ∧
      (∀ i, i ∈ t.pending ++ t.owed → s.isDue i = true) ∧ t.pending.length ≤ 1) ∧
    ∀ i rest, s.owed = i :: rest →
      (s.isDue i = true → step s = .next { s with owed := rest, pending := [i] }) ∧
      (s.isDue i = false → step s = step { s with owed := rest })

/-- The state after reset: what the rules of after power-on give, over the erased store and the levels of pins that the
model chose (assumptions 5, 6, 7). -/
def Obligations.ResetState : Prop :=
  (∀ n, (State.reset.lane n).state = .unthreaded ∧ (State.reset.lane n).key = none ∧ (State.reset.lane n).g = 0 ∧
    (State.reset.lane n).target = none ∧ (State.reset.lane n).measured = 0 ∧ (State.reset.lane n).overCount = 0 ∧
    (State.reset.lane n).overspeed = false ∧ (State.reset.lane n).graceMs = 0 ∧ (State.reset.lane n).stamp = 0 ∧
    (State.reset.lane n).lead = none ∧ (State.reset.lane n).leadMs = 0 ∧ (State.reset.lane n).residual = none ∧
    (State.reset.lane n).residualMs = 0 ∧ (State.reset.lane n).hotWeb = 0 ∧ State.reset.lines.speed.get n = 0 ∧
    ∀ z, (State.reset.lines.burners.get n).get z = false) ∧
  (∀ c, State.reset.reading c = ⟨none, false, 0⟩) ∧
  State.reset.arbiter.queue = [] ∧ State.reset.arbiter.stamp = 0 ∧ State.reset.arbiter.excess = 0 ∧
  State.reset.dryer = ⟨.off, 0, 0, none⟩ ∧ State.reset.exhaust.history = ⟨0, 0, 0, 0⟩ ∧
  State.reset.exhaust.qMeas = 0 ∧ State.reset.exhaust.zeroRun = 0 ∧ State.reset.exhaust.accumulator = 0 ∧
  State.reset.load = ⟨25, 0, 0, 0⟩ ∧ State.reset.horn = ⟨none, false⟩ ∧ State.reset.port.state = .hunt ∧
  State.reset.port.discarded = 0 ∧ State.reset.port.collisions = 0 ∧ State.reset.port.lastError = .none ∧
  State.reset.attention.latched = 0 ∧ State.reset.attention.mask = 0x3FFC0 ∧
  State.reset.heartbeat.armed = false ∧ State.reset.heartbeat.silent = false ∧
  State.reset.cal = ⟨.default, false, false⟩ ∧ State.reset.profiles = [] ∧ State.reset.marks = 0 ∧
  State.reset.lines.fan = 0 ∧ State.reset.lines.horn = false ∧ State.reset.lines.attention = false ∧
  State.reset.commit = none ∧ State.reset.pending = []

/-! ## The laws, from every lawful state -/

/-- The state after reset is lawful. -/
def Obligations.LawfulAtReset : Prop := Lawful State.reset

/-- Every step keeps the table law (R7), from every state in which it holds. -/
def Obligations.TableLawKept : Prop := ∀ s t : State, TableLaw s → step s = .next t → TableLaw t

/-- Every step from a lawful state keeps the calibration law and the ranges of every record (R1, R2, R3, R150). -/
def Obligations.RangesKept : Prop :=
  ∀ s t : State, Lawful s → step s = .next t → CalibrationLaw t ∧ ProfilesLaw t

/-- Every step from a lawful state keeps the binding law (R10, R43). -/
def Obligations.BindingLawKept : Prop := ∀ s t : State, Lawful s → step s = .next t → BindingLaw t

/-- Every step from a lawful state keeps the granted-speed law (R44). -/
def Obligations.SpeedLawKept : Prop := ∀ s t : State, Lawful s → step s = .next t → SpeedLaw t

/-- Every step from a lawful state keeps the queue law (R50, R64). -/
def Obligations.QueueLawKept : Prop := ∀ s t : State, Lawful s → step s = .next t → QueueLaw t

/-- Every step from a lawful state keeps the in-band law (R47, R79, R105). -/
def Obligations.InBandLawKept : Prop := ∀ s t : State, Lawful s → step s = .next t → InBandLaw t

/-- Every step from a lawful state keeps the figures law: active limit, fan demand and every output line are at each
moment what the records make them (R29, R33, R145). -/
def Obligations.FiguresLawKept : Prop := ∀ s t : State, Lawful s → step s = .next t → FiguresLaw t

/-- Every step from a lawful state keeps the lane law, the horn law and the count law. -/
def Obligations.LaneHornCountLawsKept : Prop :=
  ∀ s t : State, Lawful s → step s = .next t → LaneLaw t ∧ HornLaw t ∧ CountLaw t

/-- The law of the fan (R33): never above Q_max, at least Q_min in PURGE, HEATING and COOLDOWN, Q_max in SAFE_HOLD,
0 in OFF; and the duty on its line is 0 in OFF and 1023 in SAFE_HOLD. -/
def Obligations.FanLaw : Prop :=
  ∀ s : State, CalibrationLaw s → FiguresLaw s →
    (s.dryer.state ≠ .off → s.load.fanDemand ≤ s.cal.values.qMax) ∧
    (s.dryer.state = .purge ∨ s.dryer.state = .heating ∨ s.dryer.state = .cooldown →
      s.cal.values.qMin ≤ s.load.fanDemand) ∧
    (s.dryer.state = .safeHold → s.load.fanDemand = s.cal.values.qMax ∧ s.lines.fan = 1023) ∧
    (s.dryer.state = .off → s.load.fanDemand = 0 ∧ s.lines.fan = 0)

/-- The output lines, one by one, after every step from a lawful state: speed permits (R44), fan demand (R34), burner
permits (R107), horn (R120) and attention line (R138). -/
def Obligations.OutputLinesKept : Prop :=
  ∀ s t : State, Lawful s → step s = .next t →
    (∀ n, t.lines.speed.get n = (t.lane n).g * 1023 / 1200) ∧
    t.lines.fan = t.load.fanDemand * 1023 / t.cal.values.qMax ∧
    (∀ n z, ((t.lines.burners.get n).get z = true ↔
      t.dryer.state = .heating ∧ (t.lane n).state ≠ .broke ∧ (t.lane n).state ≠ .broken ∧
        (t.lane n).state ≠ .suspended ∧ (t.cuts.get n).get z = false)) ∧
    (t.lines.horn = true ↔ t.attention.isLatched .safeHold = true ∨ t.attention.isLatched .flowLost = true ∨
      ∃ c, t.horn.cadence = some c ∧ c.on = true) ∧
    (t.lines.attention = true ↔
      ∃ c : Cause, t.attention.isLatched c = true ∧ (c.index < 6 ∨ t.attention.mask.getLsbD c.index = false))

/-! ## The arithmetic -/

/-- The largest fitting speed is exact (R40): the load at it, and at every lower speed, is at most the budget, and the
load at the next multiple of 5 is more. -/
def Obligations.FittingSpeedExact : Prop :=
  ∀ (f : ProfileFields) (b : Int), ValidFields f → 0 < f.arealLoad → 0 < b →
    ∃ v, f.fittingSpeed b = some v ∧ v % 5 = 0 ∧ (f.loadAt v : Int) ≤ b ∧ b < (f.loadAt (v + 5) : Int) ∧
      ∀ u, u ≤ v → (f.loadAt u : Int) ≤ b

/-- The required flow for a load is the least whole flow that carries it at the active limit, and at most 105,600 within
the ranges (R31). -/
def Obligations.RequiredFlowLeast : Prop :=
  ∀ (s : State) (load : Nat), 0 < s.cal.values.cl → 0 < s.load.activeLimit →
    load * 100 ≤ s.requiredFlow load * (s.cal.values.cl * s.load.activeLimit) ∧
    (∀ q, load * 100 ≤ q * (s.cal.values.cl * s.load.activeLimit) → s.requiredFlow load ≤ q) ∧
    s.requiredFlow load = (load * 100 + (s.cal.values.cl * s.load.activeLimit - 1)) /
      (s.cal.values.cl * s.load.activeLimit) ∧
    s.requiredFlow 0 = 0 ∧
    (200 ≤ s.cal.values.cl * s.load.activeLimit → load ≤ 211200 → s.requiredFlow load ≤ 105600)

/-- An evaluation raises a lane's granted speed only where the total load it leaves is at most the capacity load of
that evaluation (R76). -/
def Obligations.EvaluationRaisesWithinCapacity : Prop :=
  ∀ s t : State, exec .evaluation s = .next t → Lawful s → s.powered = true → s.dryer.state = .heating →
    (∃ n, (s.lane n).g < (t.lane n).g) → t.totalLoad ≤ s.capacity

/-- What an evaluation raises, and what it must raise (R48, R65, R66, R76, R77, R78). It raises only a lane whose queue
entry no hold keeps: at most one ramp step, not past its pending target or the bound of its heat band; the k-th lane
raised in the order of the queue takes the k-th next value of the stamp counter, which steps once for each raise; a lane
raised to its target leaves the queue with GRANT_REACHED. Where the load fits and no lane is lowered, the first entry
that no hold keeps is raised to the least of its four limits, or begins its band lead at the bound of band(g); and no
entry without a hold is left below a speed at which it has a limit: its target, its ramp step, the bound of its heat
band, or the capacity. -/
def Obligations.RaiseOnlyUnheld : Prop :=
  (∀ s t : State, exec .evaluation s = .next t → Lawful s → s.powered = true → s.dryer.state = .heating →
    (∀ n, (s.lane n).g < (t.lane n).g →
      n ∈ s.arbiter.queue ∧ s.held n = false ∧
      (t.lane n).g ≤ (s.lane n).g + s.cal.values.rampStep ∧
      (t.lane n).g ≤ (bandAt (s.bandsOf n) ((s.lane n).heatBand (s.bandsOf n))).bound ∧
      ∃ T, (s.lane n).target = some T ∧ (t.lane n).g ≤ T ∧
        ((t.lane n).g = T → (t.lane n).target = none ∧ n ∉ t.arbiter.queue ∧
          t.attention.isLatched .grantReached = true ∧ t.attention.sets.grantReached &&& n.bit ≠ 0) ∧
        ((t.lane n).g < T → (t.lane n).target = some T ∧ n ∈ t.arbiter.queue)) ∧
    t.arbiter.stamp = s.arbiter.stamp +
      BitVec.ofNat 16 (s.arbiter.queue.filter fun n => (s.lane n).g < (t.lane n).g).length ∧
    (∀ k n, (s.arbiter.queue.filter fun n => (s.lane n).g < (t.lane n).g)[k]? = some n →
      (t.lane n).stamp = s.arbiter.stamp + BitVec.ofNat 16 (k + 1)) ∧
    ∀ n, (t.lane n).g ≤ (s.lane n).g → (t.lane n).stamp = (s.lane n).stamp) ∧
  ∀ s : State, Lawful s → s.powered = true → s.dryer.state = .heating → s.totalLoad ≤ s.capacity →
    s.arbiter.excess ≠ 2 → NoHotWebStep s →
    ∃ t, exec .evaluation s = .next t ∧ t.dryer = s.dryer ∧
      (∀ n, n ∉ s.arbiter.queue ∨ s.held n = true →
        t.lane n = { s.lane n with hotWeb := (t.lane n).hotWeb } ∧ (n ∈ t.arbiter.queue ↔ n ∈ s.arbiter.queue)) ∧
      (∀ before n after, s.arbiter.queue = before ++ n :: after → (∀ m ∈ before, s.held m = true) →
        s.held n = false → ∀ T, (s.lane n).target = some T → ∀ p, s.profileOf n = some p →
        (p.fittingSpeed (budgetOf s n) = none → (t.lane n).g = (s.lane n).g) ∧
        ∀ fit, p.fittingSpeed (budgetOf s n) = some fit →
          ∀ v, v = min T (min ((s.lane n).g + s.cal.values.rampStep)
            (min (bandAt p.bands ((s.lane n).heatBand p.bands)).bound fit)) →
          (t.lane n).g = max (s.lane n).g v ∧
          ((s.lane n).g < v → (t.lane n).state = .running ∨ v ≤ s.cal.values.crawl) ∧
          (v = (s.lane n).g → (s.lane n).lead = none → (s.lane n).g = boundOf p.bands (s.lane n).g →
            (s.lane n).g < T → (t.lane n).leadMs = 0 ∧ (t.lane n).target = some T ∧
            (t.lane n).lead = some ⟨bandOf p.bands (s.lane n).g + 1,
              if t.zonesInBand n = some true then .led else .leading⟩)) ∧
      ∀ n ∈ s.arbiter.queue, s.held n = false → ∀ T, (s.lane n).target = some T → ∀ p, s.profileOf n = some p →
        (t.lane n).g = T ∨ (t.lane n).g = (s.lane n).g + s.cal.values.rampStep ∨
        (t.lane n).g = (bandAt p.bands ((s.lane n).heatBand p.bands)).bound ∨
        (s.capacity : Int) ≤ (t.totalLoad : Int) - (t.laneLoad n : Int) ∨
        (s.capacity : Int) < (t.totalLoad : Int) - (t.laneLoad n : Int) + (p.loadAt ((t.lane n).g + 5) : Int)

/-- An evaluation leaves a load that fits the capacity load it found, or the dryer in SAFE_HOLD for OVERLOAD (R71, R72).
Where the load found does not fit and the dryer stays HEATING, with no analyzer or hot-web step beside it, the RUNNING
lane of the highest stamp goes to the larger of crawl and its fitting speed; only RUNNING lanes are lowered, each with
its grace and WITHDRAWN; and a lane is lowered only where every RUNNING lane that stands before it has come down to
crawl or is overspeeding. -/
def Obligations.EvaluationFitsOrHolds : Prop :=
  (∀ s : State, Lawful s → s.powered = true → s.dryer.state = .heating →
    ∃ t, exec .evaluation s = .next t ∧
      (t.dryer.state = .heating ∧ t.totalLoad ≤ s.capacity ∨
        t.dryer.state = .safeHold ∧ t.dryer.lastCause = some .overload ∧ t.arbiter.queue = [] ∧
          t.attention.isLatched .safeHold = true ∧ t.load.fanDemand = t.cal.values.qMax)) ∧
  ∀ s : State, Lawful s → s.powered = true → s.dryer.state = .heating → s.capacity < s.totalLoad →
    s.arbiter.excess ≠ 2 → (∀ n, (s.lane n).hotWeb < 9) →
    ∃ t, exec .evaluation s = .next t ∧ (t.dryer.state = .heating →
      (∀ n, FirstToLower s n → ∀ p, s.profileOf n = some p → (t.lane n).g =
        min (s.lane n).g (max s.cal.values.crawl ((p.fittingSpeed (budgetOf s n)).getD 0))) ∧
      ∀ n, (t.lane n).g < (s.lane n).g →
        (s.lane n).state = .running ∧ LoweredIn s t n (t.lane n).g ∧ t.attention.isLatched .withdrawn = true ∧
        t.attention.sets.withdrawn &&& n.bit ≠ 0 ∧
        ∀ m, m ≠ n → (s.lane m).state = .running → StandsBefore s m n →
          (t.lane m).g = s.cal.values.crawl ∨ (s.lane m).overspeed = true)

/-- The check of a frame (R127): preset to all ones, each character fed in most significant bit first over the
polynomial, not inverted; a frame is good when the result over all its characters is 0, which happens exactly when its
last two characters are the check of the others, high byte first; over the nine digits the check is 29B1h. -/
def Obligations.CheckOfFrame : Prop :=
  checkOf [0x31, 0x32, 0x33, 0x34, 0x35, 0x36, 0x37, 0x38, 0x39] = 0x29B1 ∧
  checkOf [] = 0xFFFF ∧
  (∀ (cs : List Byte) (c : Byte), checkOf (cs ++ [c]) =
    (fun r : BitVec 16 => if r.msb = true then (r <<< 1) ^^^ 0x1021 else r <<< 1)^[8]
      (checkOf cs ^^^ (c ++ (0 : Byte)))) ∧
  (∀ cs : List Byte, frameGood cs = true ↔ checkOf cs = 0) ∧
  ∀ (cs : List Byte) (hi lo : Byte),
    frameGood (cs ++ [hi, lo]) = true ↔ (hi ++ lo : BitVec 16) = checkOf cs

/-- A PWRITE body carries its fields whole (R155, R157): a body laid out from valid fields has the length its counts
ask for, is read back as those fields, and passes every field test (R16). -/
def Obligations.PwriteBodyRoundTrip : Prop :=
  ∀ f : ProfileFields, ValidFields f →
    (pwriteBody f).length = 8 + 3 * f.couples.length + 10 * f.bands.length ∧ (pwriteBody f).length ≤ 92 ∧
    ∃ b, readPwrite (pwriteBody f) = some b ∧ b.coupleCount = f.couples.length ∧ b.bandCount = f.bands.length ∧
      b.fields = f ∧ firstFailed b.fields.tests = none

/-- A calibration block carries the 29 values whole (R161): the block of a calibration whose values are in range has 34
bytes and is read back as that calibration. -/
def Obligations.CalibrationBlockRoundTrip : Prop :=
  ∀ c : Calibration, firstFailed (calibrationTests c.toValues) = none →
    c.bytes.length = 34 ∧ ∃ v, readCalibration c.bytes = some v ∧ Calibration.ofValues v = c ∧
      firstFailed (calibrationTests v) = none

/-! ## Requests that read -/

/-- PLOOK (R14, R155): the whole record, or NOT_FOUND, for key 0 always; a body that is not one key is refused; nothing
but the port changes, in a commit too. -/
def Obligations.PlookAnswersRecord : Prop :=
  (∀ s : State, ListeningAt s → ProfilesLaw s →
    exec (.plook [0, 0]) s = .next (onlyAnswered s 0x01 (.refused 4 0))) ∧
  (∀ (s : State) (body : List Byte), ListeningAt s → body.length ≤ 96 → body.length ≠ 2 →
    exec (.plook body) s = .next (onlyAnswered s 0x01 (.refused 2 0))) ∧
  ∀ (s : State) (k1 k0 : Byte), ListeningAt s →
    exec (.plook [k1, k0]) s = .next (onlyAnswered s 0x01
      (match findProfile s.profiles (k1.toNat * 256 + k0.toNat) with
      | none => .refused 4 0
      | some p => .done (be2 p.key ++ [p.revision] ++ be2 p.width ++
          [byteOf p.tolerance, byteOf (p.override.getD 0), if p.retirePending then 1 else 0, byteOf p.bindCount,
            if s.marks.getLsbD p.slot then 1 else 0, byteOf p.couples.length, byteOf p.bands.length] ++
          (p.couples.map fun c => be3 (c.id * 1048576 + c.rate * 1024 + c.coverage)).flatten ++
          (p.bands.map fun b => be2 b.bound ++ be2 b.z1 ++ be2 b.z2 ++ be2 b.z3 ++
            [byteOf b.webExitMin, byteOf b.chillExitMax]).flatten)))

/-- PLIST (R15, R163): the first sixteen records at or above the starting key in ascending key, each with state and
bind count, and whether more follow; a body that is not one key is refused; nothing but the port changes. -/
def Obligations.PlistAnswersPage : Prop :=
  (∀ (s : State) (body : List Byte), ListeningAt s → body.length ≤ 96 → body.length ≠ 2 →
    exec (.plist body) s = .next (onlyAnswered s 0x02 (.refused 2 0))) ∧
  ∀ (s : State) (k1 k0 : Byte), ListeningAt s → TableLaw s →
    ∃ page rest : List Profile,
      s.profiles.filter (fun p => k1.toNat * 256 + k0.toNat ≤ p.key) = page ++ rest ∧
      page.length ≤ 16 ∧ (rest ≠ [] → page.length = 16) ∧
      page.Pairwise (fun p q => p.key < q.key) ∧ (∀ p ∈ page, ∀ q ∈ rest, p.key < q.key) ∧
      exec (.plist [k1, k0]) s = .next (onlyAnswered s 0x02 (.done
        (byteOf page.length :: (if rest = [] then 0 else 1) ::
          (page.map fun p => be2 p.key ++ [if p.retirePending then 1 else 0, byteOf p.bindCount]).flatten)))

/-- LSTAT (R63, R66, R67, R68, R159): 28 bytes of the lane as it stands, the hold set of a queued lane among them bit by
bit; nothing but the port changes. Where the lane has no residual load its two bytes are 0, which is the model's choice
(assumption 32). A lane number outside 1 to 4, and a body that is not one lane number, is refused. -/
def Obligations.LstatAnswersLane : Prop :=
  (∀ (s : State) (n : LaneId), ListeningAt s → ∃ b : List Byte,
    exec (.lstat (laneBody n)) s = .next (onlyAnswered s 0x0D (.done b)) ∧ b.length = 28 ∧
    b.take 2 = [byteOf n.number, (s.lane n).state.code] ∧
    (b.drop 2).take 8 = be2 ((s.lane n).key.getD 0) ++ be2 (s.lane n).g ++ be2 ((s.lane n).target.getD 0) ++
      be2 (s.lane n).measured ∧
    (b.drop 10).take 4 = [if (s.lane n).overspeed then 1 else 0, byteOf (((s.lane n).graceMs + 999) / 1000)] ++
      be2 (s.lane n).stamp.toNat ∧
    (b.drop 14).take 4 = [byteOf (((s.lane n).lead.map (·.band)).getD 0), Lead.statusCode (s.lane n).lead] ++
      be2 ((s.lane n).leadMs / 1000) ∧
    (b.drop 18).take 5 = [if (s.lane n).residual.isSome then 1 else 0] ++ be2 ((s.lane n).residual.getD 0) ++
      [byteOf (((s.lane n).residualMs + 999) / 1000), byteOf (s.lane n).hotWeb] ∧
    (b.drop 23).take 4 = [byteOf (((s.profileOf n).map fun p => (s.lane n).heatBand p.bands).getD 0)] ++
      be2 (s.laneLoad n) ++ [byteOf (if n ∈ s.arbiter.queue then s.arbiter.queue.idxOf n + 1 else 0)] ∧
    (n ∉ s.arbiter.queue → b.drop 27 = [0]) ∧
    (n ∈ s.arbiter.queue → ∀ band, band = bandAt (s.bandsOf n) (bandOf (s.bandsOf n) (s.lane n).g) →
      ((b.getD 27 0).getLsbD 0 = true ↔ (s.lane n).state = .threading ∨
        ((s.lane n).state = .ready ∨ (s.lane n).state = .running) ∧
          (s.lane n).lead.map (·.status) ≠ some .leading ∧ (s.lane n).inBand ≠ some true) ∧
      ((b.getD 27 0).getLsbD 1 = true ↔ (s.lane n).lead.map (·.status) = some .leading) ∧
      ((b.getD 27 0).getLsbD 2 = false ↔ (s.reading (.webExit n)).fresh = true ∧
        ∃ v, (s.reading (.webExit n)).value = some v ∧ (band.webExitMin : Int) ≤ v) ∧
      ((b.getD 27 0).getLsbD 3 = false ↔ (s.reading (.chillExit n)).fresh = true ∧
        ∃ v, (s.reading (.chillExit n)).value = some v ∧ v ≤ (band.chillExitMax : Int)) ∧
      ((b.getD 27 0).getLsbD 4 = true ↔ (∃ z, (s.reading (.zone n z)).fresh = false) ∨
        (s.reading (.webExit n)).fresh = false ∨ (s.reading (.chillExit n)).fresh = false) ∧
      ((b.getD 27 0).getLsbD 5 = false ↔ (s.reading .chillWater).fresh = true ∧
        ∃ v, (s.reading .chillWater).value = some v ∧ v ≤ (s.cal.values.chillWaterMax : Int)) ∧
      ((b.getD 27 0).getLsbD 6 = true ↔ (s.lane n).overspeed = true) ∧
      (b.getD 27 0).getLsbD 7 = false)) ∧
  (∀ (s : State) (k : Byte), ListeningAt s → k = 0 ∨ 4 < k.toNat →
    exec (.lstat [k]) s = .next (onlyAnswered s 0x0D (.refused 3 1))) ∧
  ∀ (s : State) (body : List Byte), ListeningAt s → body.length ≤ 96 → body.length ≠ 1 →
    exec (.lstat body) s = .next (onlyAnswered s 0x0D (.refused 2 0))

/-- DSTAT, ATRD and CRD (R97, R140, R151, R160, R161, R162): 35, 23 and 36 bytes of the records as they stand, ATRD's
with every cause's detail; nothing but the port changes. A body is refused. -/
def Obligations.StatusAnswers : Prop :=
  ∀ s : State, ListeningAt s →
    (∃ b : List Byte, exec (.dstat []) s = .next (onlyAnswered s 0x12 (.done b)) ∧ b.length = 35 ∧
      b.take 8 = [s.dryer.state.code, HoldCause.code s.dryer.lastCause] ++ be3 s.exhaust.accumulator ++
        be3 (4 * s.cal.values.volume * s.cal.values.pulsesPerM3) ∧
      (b.drop 8).take 4 = be2 (s.dryer.purgeMs / 1000) ++ be2 (s.dryer.cooldownMs / 1000) ∧
      (b.drop 12).take 8 = be2 s.exhaust.history.oldest ++ be2 s.exhaust.history.older ++
        be2 s.exhaust.history.newer ++ be2 s.exhaust.history.newest ∧
      b.drop 20 = be3 s.exhaust.qMeas ++ be2 s.load.fanDemand ++ [byteOf s.load.activeLimit] ++ be3 s.totalLoad ++
        be4 (s.exhaust.qMeas * s.cal.values.cl * s.load.activeLimit / 100) ++ be2 s.load.estimated) ∧
    (∃ b : List Byte, exec (.atrd []) s = .next (onlyAnswered s 0x19 (.done b)) ∧ b.length = 23 ∧
      b.take 3 = be3 s.attention.latched.toNat ∧
      (b.drop 3).take 7 = [s.attention.sets.webBreak, s.attention.sets.grantReached, s.attention.sets.withdrawn,
        s.attention.sets.bandLeadTimeout, s.attention.sets.hotWeb, s.attention.sets.overspeed,
        s.attention.sets.zoneOvertemp].map (fun set => byteOf set.toNat) ∧
      (b.drop 10).take 1 = [byteOf (s.attention.sets.readingStale.toNat + if s.attention.staleCommon then 16 else 0)] ∧
      (b.drop 11).take 6 = [40, 32, 24, 16, 8, 0].map (fun place => byteOf (s.attention.faultSlots.toNat / 2 ^ place)) ∧
      (b.drop 17).take 2 = [if s.attention.faultCalibration then 1 else 0, byteOf s.attention.slotsLost] ∧
      (b.drop 19).take 3 = be3 s.attention.mask.toNat ∧
      (b.drop 22).map BitVec.toNat = [(if s.attention.line then 1 else 0) + (if s.heartbeat.armed then 2 else 0) +
        (if s.heartbeat.silent then 4 else 0)]) ∧
    (∃ b : List Byte, exec (.crd []) s = .next (onlyAnswered s 0x21 (.done b)) ∧ b.length = 36 ∧
      b.take 34 = s.cal.values.bytes ∧
      b.drop 34 = [if s.cal.valid then 1 else 0, if s.cal.changed then 1 else 0]) ∧
    ∀ body : List Byte, body ≠ [] → body.length ≤ 96 →
      exec (.dstat body) s = .next (onlyAnswered s 0x12 (.refused 2 0)) ∧
      exec (.atrd body) s = .next (onlyAnswered s 0x19 (.refused 2 0)) ∧
      exec (.crd body) s = .next (onlyAnswered s 0x21 (.refused 2 0))

/-- PKRD and KSTAT (R37, R135): the figures as they stood, and with flag 1 the record or the two counts are cleared; a
flag of another value, and a body that is not one flag, is refused and clears nothing. -/
def Obligations.PkrdAndKstatReadAndClear : Prop :=
  ∀ s : State, ListeningAt s →
    (∀ flag : Byte, flag = 0 ∨ flag = 1 →
      exec (.pkrd [flag]) s = .next
        { s with
          port := answering s.port 0x1C (.done (be2 s.load.peak ++ be2 s.load.estimated))
          load := { s.load with peak := if flag = 1 then 0 else s.load.peak } } ∧
      exec (.kstat [flag]) s = .next (onlyAnswered
        { s with port := { s.port with
            discarded := if flag = 1 then 0 else s.port.discarded
            collisions := if flag = 1 then 0 else s.port.collisions } }
        0x29 (.done (s.port.lastError.code :: (be2 s.port.discarded ++ be2 s.port.collisions))))) ∧
    (∀ flag : Byte, flag ≠ 0 → flag ≠ 1 →
      exec (.pkrd [flag]) s = .next (onlyAnswered s 0x1C (.refused 3 1)) ∧
      exec (.kstat [flag]) s = .next (onlyAnswered s 0x29 (.refused 3 1))) ∧
    ∀ body : List Byte, body.length ≤ 96 → body.length ≠ 1 →
      exec (.pkrd body) s = .next (onlyAnswered s 0x1C (.refused 2 0)) ∧
      exec (.kstat body) s = .next (onlyAnswered s 0x29 (.refused 2 0))

/-! ## The profile requests -/

/-- While a commit is in flight PWRITE, PTRIM, PRETIRE, SCOMMIT and CWR are answered BUSY whatever they carry, and
nothing but the port changes (R13, R147, R152); PLOOK and PLIST are answered as without the commit. That SCOMMIT with a body is
answered BUSY before its length is looked at is the model's reading (DEDUCED, assumption 19). -/
def Obligations.CommitAnswersBusy : Prop :=
  ∀ (s : State) (body : List Byte), ListeningAt s → s.commit ≠ none → body.length ≤ 96 →
    exec (.pwrite body) s = .next (onlyAnswered s 0x03 .busy) ∧
    exec (.ptrim body) s = .next (onlyAnswered s 0x04 .busy) ∧
    exec (.pretire body) s = .next (onlyAnswered s 0x05 .busy) ∧
    exec (.scommit body) s = .next (onlyAnswered s 0x20 .busy) ∧
    exec (.cwr body) s = .next (onlyAnswered s 0x22 .busy) ∧
    (∃ r, exec (.plook body) s = .next (onlyAnswered s 0x01 r) ∧ r ≠ .busy ∧
      exec (.plook body) { s with commit := none } = .next (onlyAnswered { s with commit := none } 0x01 r)) ∧
    ∃ r, exec (.plist body) s = .next (onlyAnswered s 0x02 r) ∧ r ≠ .busy ∧
      exec (.plist body) { s with commit := none } = .next (onlyAnswered { s with commit := none } 0x02 r)

/-- PWRITE of valid fields (R16, R17, R18): a new key creates an ACTIVE record of revision 0, unbound, tied to the
lowest free slot index, its couples in ascending id; an unbound ACTIVE record is replaced, its revision stepped, its
slot kept. Either sets the slot's mark, and every other record stays. A count out of range, the couple count first, a
length that does not agree with the counts, and then the first field out of its range refuse it, with the index of the
count or the field; a refusal changes nothing but the port. -/
def Obligations.PwriteWrites : Prop :=
  (∀ (s : State) (f : ProfileFields), ListeningAt s → TableLaw s → s.commit = none → ValidFields f →
    (findProfile s.profiles f.key = none → s.profiles.length < 48 → ∃ t slot couples,
      Answers (.pwrite (pwriteBody f)) s 0x03 (.done [0, byteOf slot, 0]) [.profiles, .marks] t ∧
      slot < 48 ∧ (∀ p ∈ s.profiles, p.slot ≠ slot) ∧ (∀ i < slot, ∃ p ∈ s.profiles, p.slot = i) ∧
      couples.Perm f.couples ∧ couples.Pairwise (fun c d => c.id < d.id) ∧
      findProfile t.profiles f.key = some { f with
        couples := couples, revision := 0, retirePending := false, bindCount := 0, slot := slot } ∧
      (∀ k, k ≠ f.key → findProfile t.profiles k = findProfile s.profiles k) ∧
      ∀ i < 48, t.marks.getLsbD i = (i == slot || s.marks.getLsbD i)) ∧
    (∀ p, findProfile s.profiles f.key = some p → p.retirePending = false → p.bindCount = 0 → ∃ t couples,
      Answers (.pwrite (pwriteBody f)) s 0x03 (.done [p.revision + 1, byteOf p.slot, 1]) [.profiles, .marks] t ∧
      couples.Perm f.couples ∧ couples.Pairwise (fun c d => c.id < d.id) ∧
      findProfile t.profiles f.key = some { f with
        couples := couples, revision := p.revision + 1, retirePending := false, bindCount := 0, slot := p.slot } ∧
      (∀ k, k ≠ f.key → findProfile t.profiles k = findProfile s.profiles k) ∧
      ∀ i < 48, t.marks.getLsbD i = (i == p.slot || s.marks.getLsbD i)) ∧
    (∀ p, findProfile s.profiles f.key = some p → p.retirePending = true →
      exec (.pwrite (pwriteBody f)) s = .next (onlyAnswered s 0x03 (.refused 7 0))) ∧
    (∀ p, findProfile s.profiles f.key = some p → p.retirePending = false → 1 ≤ p.bindCount →
      exec (.pwrite (pwriteBody f)) s = .next (onlyAnswered s 0x03 (.refused 6 0))) ∧
    (findProfile s.profiles f.key = none → s.profiles.length = 48 →
      exec (.pwrite (pwriteBody f)) s = .next (onlyAnswered s 0x03 (.refused 5 0)))) ∧
  (∀ (s : State) (header rest : List Byte) (couples bands : Byte), ListeningAt s → s.commit = none →
    header.length = 6 → rest.length ≤ 88 →
    (couples = 0 ∨ 8 < couples.toNat →
      exec (.pwrite (header ++ couples :: bands :: rest)) s = .next (onlyAnswered s 0x03 (.refused 3 5))) ∧
    (1 ≤ couples.toNat → couples.toNat ≤ 8 → bands = 0 ∨ 6 < bands.toNat →
      exec (.pwrite (header ++ couples :: bands :: rest)) s = .next (onlyAnswered s 0x03 (.refused 3 6))) ∧
    (1 ≤ couples.toNat → couples.toNat ≤ 8 → 1 ≤ bands.toNat → bands.toNat ≤ 6 →
      rest.length ≠ 3 * couples.toNat + 10 * bands.toNat →
      exec (.pwrite (header ++ couples :: bands :: rest)) s = .next (onlyAnswered s 0x03 (.refused 2 0)))) ∧
  (∀ (s : State) (body : List Byte), ListeningAt s → s.commit = none → body.length < 8 →
    exec (.pwrite body) s = .next (onlyAnswered s 0x03 (.refused 2 0))) ∧
  ∀ (s : State) (f : ProfileFields) (i : Nat), ListeningAt s → s.commit = none → Encodable f →
    ¬FieldGood f i → (∀ j < i, FieldGood f j) →
    exec (.pwrite (pwriteBody f)) s = .next (onlyAnswered s 0x03 (.refused 3 (byteOf i)))

/-- PTRIM of one to eight items of any kinds (R19, R20, R21, R22, R60): with the expected revision absent or the
record's, and the finished copy valid, the record takes the trimmed fields, its revision steps, its slot's mark is set,
and no other record changes; a lane bound to it keeps its speed within the new maximum and loses or lowers a target
above it; where its speed is lowered its grace starts, its lead goes, and it leaves RUNNING at or below crawl (R49);
elsewhere its lead goes where its target or its band no longer needs it (R60); nothing else of it changes but what the
zones say of it; no other lane changes. It is refused with the record's revision where another is expected, with the position
of the first invalid item, with that of the last remove-couple item where no couple is left, and with that of the last
set-band-bound item where the bounds do not increase; for an absent key, a count outside 1 to 8, or a length that does
not agree. A refusal changes nothing but the port. -/
def Obligations.PtrimTrims : Prop :=
  (∀ (s : State) (k1 k0 present expected : Byte), ListeningAt s → TableLaw s → QueueLaw s → s.commit = none →
    ∀ p, findProfile s.profiles (k1.toNat * 256 + k0.toNat) = some p → ValidProfile p →
    ∀ (items : List (List Byte)) (f : ProfileFields), TrimsAll p.toProfileFields items f →
    1 ≤ items.length → items.length ≤ 8 →
    ∀ body, body = k1 :: k0 :: present :: expected :: byteOf items.length :: items.flatten →
    (present = 0 ∨ expected = p.revision →
      (f.couples ≠ [] → f.bands.Pairwise (fun a b => a.bound < b.bound) →
        ∃ t, exec (.ptrim body) s = .next t ∧
          t.port = answering s.port 0x04 (.done ((p.revision + 1) :: be2 (maxSpeed f.bands))) ∧
          findProfile t.profiles p.key = some { p with toProfileFields := f, revision := p.revision + 1 } ∧
          (∀ k, k ≠ p.key → findProfile t.profiles k = findProfile s.profiles k) ∧
          (∀ i < 48, t.marks.getLsbD i = (i == p.slot || s.marks.getLsbD i)) ∧
          (∀ n, (s.lane n).key ≠ some p.key → t.lane n = s.lane n) ∧
          (∀ n, (s.lane n).key = some p.key →
            (t.lane n).g = min (s.lane n).g (maxSpeed f.bands) ∧
            t.lane n = { s.lane n with
              g := (t.lane n).g, state := (t.lane n).state, target := (t.lane n).target
              graceMs := if maxSpeed f.bands < (s.lane n).g then s.cal.values.decelGrace * 1000 else (s.lane n).graceMs
              lead := (t.lane n).lead, leadMs := (t.lane n).leadMs
              hotWeb := if (s.lane n).state = .running ∧ (t.lane n).state ≠ .running then 0 else (s.lane n).hotWeb
              inBand := t.zonesInBand n } ∧
            ((t.lane n).state = .running ↔ (s.lane n).state = .running ∧
              ¬(maxSpeed f.bands < (s.lane n).g ∧ maxSpeed f.bands ≤ s.cal.values.crawl)) ∧
            (t.lane n).state.moving = (s.lane n).state.moving ∧
            ((s.lane n).state.moving = false → (t.lane n).state = (s.lane n).state) ∧
            (maxSpeed f.bands < (s.lane n).g ∨ (t.lane n).target = none ∨ (s.lane n).lead = none →
              (t.lane n).lead = none) ∧
            ((t.lane n).lead = none → (s.lane n).lead ≠ none → (t.lane n).leadMs = 0) ∧
            ((s.lane n).g ≤ maxSpeed f.bands → ∀ d, (s.lane n).lead = some d → ∀ T, (t.lane n).target = some T →
              if T ≤ boundOf f.bands (t.lane n).g ∨ d.band ≤ bandOf f.bands (t.lane n).g then
                (t.lane n).lead = none
              else (t.lane n).lead.map (·.band) = some d.band ∧ (t.lane n).leadMs = (s.lane n).leadMs) ∧
            (∀ T, (s.lane n).target = some T → (t.lane n).target =
              if T ≤ maxSpeed f.bands then some T
              else if maxSpeed f.bands ≤ (s.lane n).g then none else some (maxSpeed f.bands)) ∧
            ((s.lane n).target = none → (t.lane n).target = none)) ∧
          t.arbiter = { s.arbiter with queue := s.arbiter.queue.filter fun n => (t.lane n).target ≠ none } ∧
          FormedFrom s t ∧ KeepsAllBut (everyLane ++ [.profiles, .marks, .arbiter, .load, .lines, .port]) s t) ∧
      (f.couples = [] → ∀ k, LastOfKind 4 items k →
        exec (.ptrim body) s = .next (onlyAnswered s 0x04 (.refused 3 (byteOf k)))) ∧
      (f.couples ≠ [] → ¬f.bands.Pairwise (fun a b => a.bound < b.bound) → ∀ k, LastOfKind 6 items k →
        exec (.ptrim body) s = .next (onlyAnswered s 0x04 (.refused 3 (byteOf k))))) ∧
    (present ≠ 0 → expected ≠ p.revision →
      exec (.ptrim body) s = .next (onlyAnswered s 0x04 (.refused 8 p.revision)))) ∧
  (∀ (s : State) (k1 k0 present expected : Byte), ListeningAt s → s.commit = none →
    ∀ p, findProfile s.profiles (k1.toNat * 256 + k0.toNat) = some p → ValidProfile p →
    present = 0 ∨ expected = p.revision →
    ∀ (items : List (List Byte)) (f : ProfileFields), TrimsAll p.toProfileFields items f →
    (∀ (bad : List Byte) (rest : List (List Byte)), ItemShape bad → (∀ g, ¬Trims f bad g) →
      (∀ i ∈ rest, ItemShape i) → items.length + 1 + rest.length ≤ 8 →
      exec (.ptrim (k1 :: k0 :: present :: expected :: byteOf (items.length + 1 + rest.length) ::
          (items ++ bad :: rest).flatten)) s =
        .next (onlyAnswered s 0x04 (.refused 3 (byteOf (items.length + 1))))) ∧
    ∀ (kind : Byte) (rest : List Byte) (more : Nat), kind = 0 ∨ 9 < kind.toNat → items.length + 1 + more ≤ 8 →
      more ≤ rest.length → 5 + items.flatten.length + 1 + rest.length ≤ 96 →
      exec (.ptrim (k1 :: k0 :: present :: expected :: byteOf (items.length + 1 + more) ::
          (items.flatten ++ kind :: rest))) s =
        .next (onlyAnswered s 0x04 (.refused 3 (byteOf (items.length + 1))))) ∧
  ∀ (s : State) (k1 k0 present expected count : Byte) (items : List (List Byte)), ListeningAt s → s.commit = none →
    (∀ i ∈ items, ItemShape i) → items.length ≤ 8 →
    (count = 0 ∨ 8 < count.toNat →
      exec (.ptrim (k1 :: k0 :: present :: expected :: count :: items.flatten)) s =
        .next (onlyAnswered s 0x04 (.refused 3 0))) ∧
    (1 ≤ count.toNat → count.toNat ≤ 8 → count.toNat ≠ items.length →
      exec (.ptrim (k1 :: k0 :: present :: expected :: count :: items.flatten)) s =
        .next (onlyAnswered s 0x04 (.refused 2 0))) ∧
    (1 ≤ count.toNat → count.toNat = items.length →
      findProfile s.profiles (k1.toNat * 256 + k0.toNat) = none →
      exec (.ptrim (k1 :: k0 :: present :: expected :: count :: items.flatten)) s =
        .next (onlyAnswered s 0x04 (.refused 4 0)))

/-- PRETIRE (R12, R23): an unbound ACTIVE record leaves the table, its slot's mark set; a bound one becomes
RETIRE_PENDING and nothing else of it changes; one already retiring stays; an absent key is NOT_FOUND. -/
def Obligations.PretireRetires : Prop :=
  ∀ (s : State) (k1 k0 : Byte), ListeningAt s → TableLaw s → s.commit = none →
    (findProfile s.profiles (k1.toNat * 256 + k0.toNat) = none →
      exec (.pretire [k1, k0]) s = .next (onlyAnswered s 0x05 (.refused 4 0))) ∧
    ∀ p, findProfile s.profiles (k1.toNat * 256 + k0.toNat) = some p →
      (p.retirePending = false → p.bindCount = 0 → ∃ t,
        Answers (.pretire [k1, k0]) s 0x05 (.done [0]) [.profiles, .marks] t ∧
        findProfile t.profiles p.key = none ∧ t.profiles.length + 1 = s.profiles.length ∧
        (∀ k, k ≠ p.key → findProfile t.profiles k = findProfile s.profiles k) ∧
        ∀ i < 48, t.marks.getLsbD i = (i == p.slot || s.marks.getLsbD i)) ∧
      (p.retirePending = false → 1 ≤ p.bindCount → ∃ t,
        Answers (.pretire [k1, k0]) s 0x05 (.done [1]) [.profiles] t ∧
        findProfile t.profiles p.key = some { p with retirePending := true } ∧
        ∀ k, k ≠ p.key → findProfile t.profiles k = findProfile s.profiles k) ∧
      (p.retirePending = true → exec (.pretire [k1, k0]) s = .next (onlyAnswered s 0x05 (.done [1])))

/-! ## The lane requests -/

/-- LTHRD (R10, R46): an UNTHREADED lane takes the key of an ACTIVE record with the dryer in PURGE or HEATING: it is
READY where its zones are in band and else THREADING, stands still without target, lead or residual load, and the
record's bind count goes up by one; no other lane and no other record changes. A refusal changes no record. -/
def Obligations.LthrdThreads : Prop :=
  ∀ (s : State) (n : LaneId) (k1 k0 : Byte), ListeningAt s →
    (∀ p, findProfile s.profiles (k1.toNat * 256 + k0.toNat) = some p → (s.lane n).state = .unthreaded →
      s.dryer.state = .purge ∨ s.dryer.state = .heating → p.retirePending = false →
      ∃ t, exec (.lthrd (laneBody n ++ [k1, k0])) s = .next t ∧
        t.port = answering s.port 0x08 (.done [byteOf (p.bindCount + 1)]) ∧
        (t.lane n).key = some p.key ∧
        (t.lane n).state = (if t.zonesInBand n = some true then .ready else .threading) ∧
        (t.lane n).g = 0 ∧ (t.lane n).target = none ∧ (t.lane n).lead = none ∧ (t.lane n).residual = none ∧
        (t.lane n).graceMs = 0 ∧ (t.lane n).stamp = (s.lane n).stamp ∧
        findProfile t.profiles p.key = some { p with bindCount := p.bindCount + 1 } ∧
        (∀ k, k ≠ p.key → findProfile t.profiles k = findProfile s.profiles k) ∧
        (∀ m, m ≠ n → t.breakInput m = s.breakInput m) ∧ (t.breakInput n).level = (s.breakInput n).level ∧
        (t.breakInput n).timer = (if s.inputActive n ∧ (s.breakInput n).timer = none then
          some s.cal.values.confirmMs else (s.breakInput n).timer) ∧
        FormedFrom s t ∧ KeepsAllBut [.profiles, .lane n, .breaks, .load, .lines, .port] s t) ∧
    ((s.lane n).state ≠ .unthreaded →
      exec (.lthrd (laneBody n ++ [k1, k0])) s = .next (onlyAnswered s 0x08 (.refused 9 0))) ∧
    ((s.lane n).state = .unthreaded → findProfile s.profiles (k1.toNat * 256 + k0.toNat) = none →
      exec (.lthrd (laneBody n ++ [k1, k0])) s = .next (onlyAnswered s 0x08 (.refused 4 0))) ∧
    (∀ p, findProfile s.profiles (k1.toNat * 256 + k0.toNat) = some p → (s.lane n).state = .unthreaded →
      p.retirePending = true →
      exec (.lthrd (laneBody n ++ [k1, k0])) s = .next (onlyAnswered s 0x08 (.refused 7 0))) ∧
    ∀ p, findProfile s.profiles (k1.toNat * 256 + k0.toNat) = some p → (s.lane n).state = .unthreaded →
      s.dryer.state ≠ .purge → s.dryer.state ≠ .heating → p.retirePending = false →
      exec (.lthrd (laneBody n ++ [k1, k0])) s = .next (onlyAnswered s 0x08 (.refused 10 0))

/-- LUNTH (R11, R57): a THREADING, READY or BROKEN lane, or a SUSPENDED one without a running hold, becomes UNTHREADED;
its profile loses one lane, and a RETIRE_PENDING profile that loses its last lane leaves the table with
PROFILE_RETIRED; a commit in flight stays, a removal counting among the slot indices marked again after its snapshot
(R148). It is refused where the lane is UNTHREADED or RUNNING, and while a hold runs. -/
def Obligations.LunthUnthreads : Prop :=
  ∀ (s : State) (n : LaneId), ListeningAt s → Lawful s →
    (∀ k, (s.lane n).key = some k → ∀ p, findProfile s.profiles k = some p → (s.lane n).state ≠ .running →
      (s.lane n).residual = none →
      ∃ t, exec (.lunth (laneBody n)) s = .next t ∧
        (t.lane n).state = .unthreaded ∧ (t.lane n).key = none ∧ (t.lane n).g = 0 ∧ (t.lane n).target = none ∧
        (t.lane n).lead = none ∧ (t.lane n).overspeed = false ∧ (t.lane n).stamp = (s.lane n).stamp ∧
        (t.lane n).graceMs =
          (if 0 < (s.lane n).g then s.cal.values.decelGrace * 1000 else (s.lane n).graceMs) ∧
        t.arbiter = { s.arbiter with queue := s.arbiter.queue.filter (· ≠ n) } ∧
        (∀ j, j ≠ k → findProfile t.profiles j = findProfile s.profiles j) ∧
        (p.retirePending = true ∧ p.bindCount = 1 →
          t.port = answering s.port 0x09 (.done [0, 1]) ∧ findProfile t.profiles k = none ∧
          (∀ i < 48, t.marks.getLsbD i = (i == p.slot || s.marks.getLsbD i)) ∧
          t.attention = { s.attention with latched := s.attention.latched ||| 0x2000 } ∧
          t.commit = s.commit.map fun c => { c with remarked := c.remarked ||| 1#48 <<< p.slot }) ∧
        (¬(p.retirePending = true ∧ p.bindCount = 1) →
          t.port = answering s.port 0x09 (.done [byteOf (p.bindCount - 1), 0]) ∧
          findProfile t.profiles k = some { p with bindCount := p.bindCount - 1 } ∧ t.marks = s.marks ∧
          t.attention = s.attention ∧ t.commit = s.commit) ∧
        FormedFrom s t ∧
        KeepsAllBut [.profiles, .marks, .commit, .attention, .lane n, .arbiter, .load, .lines, .port] s t) ∧
    ((s.lane n).state = .unthreaded ∨ (s.lane n).state = .running →
      exec (.lunth (laneBody n)) s = .next (onlyAnswered s 0x09 (.refused 9 0))) ∧
    ((s.lane n).residual ≠ none → exec (.lunth (laneBody n)) s = .next (onlyAnswered s 0x09 (.refused 11 0)))

/-- LSPD taken at once (R49, R51, R52): a clamped target T at or below crawl or at or below g becomes g; the pending
target, the entry and the lead go; a decrease starts the decel grace and takes a RUNNING lane at or below crawl out of
RUNNING; no stamp is taken. -/
def Obligations.LspdTakenAtOnce : Prop :=
  ∀ (s : State) (n : LaneId) (v1 v0 : Byte) (T : Nat),
    T = min ((v1.toNat * 256 + v0.toNat) / 5 * 5) (maxSpeed (s.bandsOf n)) → ListeningAt s →
    (s.lane n).state.moving = true → s.dryer.state = .heating →
    T ≤ (s.lane n).g ∨ T ≤ s.cal.values.crawl →
    ∃ t, exec (.lspd (laneBody n ++ [v1, v0])) s = .next t ∧
      t.port = answering s.port 0x0A (.done (be2 T ++ [0, 0])) ∧
      (t.lane n).g = T ∧ (t.lane n).target = none ∧ (t.lane n).lead = none ∧ (t.lane n).leadMs = 0 ∧
      (t.lane n).stamp = (s.lane n).stamp ∧ (t.lane n).key = (s.lane n).key ∧
      (t.lane n).graceMs = (if T < (s.lane n).g then s.cal.values.decelGrace * 1000 else (s.lane n).graceMs) ∧
      ((t.lane n).state = .running ↔
        (s.lane n).state = .running ∧ ¬(T < (s.lane n).g ∧ T ≤ s.cal.values.crawl)) ∧
      (t.lane n).state.moving = true ∧
      t.arbiter = { s.arbiter with queue := s.arbiter.queue.filter (· ≠ n) } ∧
      t.lines.speed.get n = T * 1023 / 1200 ∧
      FormedFrom s t ∧ KeepsAllBut [.lane n, .arbiter, .load, .lines, .port] s t

/-- LSPD queued (R51, R53): a clamped target T above g and above crawl becomes the pending target; g is raised to crawl
where it is below; the lane joins the tail of the queue or keeps its place; no stamp is taken. While master-silent holds
it is refused SILENT. Whatever its target, LSPD is refused WRONG_STATE for a lane in UNTHREADED, BREAK, BROKEN or
SUSPENDED, NOT_HEATING for the others while the dryer is not HEATING, and BAD_FIELD for a lane number outside 1 to 4. -/
def Obligations.LspdQueues : Prop :=
  (∀ (s : State) (v1 v0 : Byte), ListeningAt s →
    (∀ n, (s.lane n).state = .unthreaded ∨ (s.lane n).state = .broke ∨ (s.lane n).state = .broken ∨
        (s.lane n).state = .suspended →
      exec (.lspd (laneBody n ++ [v1, v0])) s = .next (onlyAnswered s 0x0A (.refused 9 0))) ∧
    (∀ n, (s.lane n).state = .threading ∨ (s.lane n).state = .ready ∨ (s.lane n).state = .running →
      s.dryer.state ≠ .heating →
      exec (.lspd (laneBody n ++ [v1, v0])) s = .next (onlyAnswered s 0x0A (.refused 10 0))) ∧
    ∀ k : Byte, k = 0 ∨ 4 < k.toNat →
      exec (.lspd [k, v1, v0]) s = .next (onlyAnswered s 0x0A (.refused 3 1))) ∧
  ∀ (s : State) (n : LaneId) (v1 v0 : Byte) (T : Nat),
    T = min ((v1.toNat * 256 + v0.toNat) / 5 * 5) (maxSpeed (s.bandsOf n)) → ListeningAt s →
    (s.lane n).state.moving = true → s.dryer.state = .heating →
    (s.lane n).g < T → s.cal.values.crawl < T →
    (s.heartbeat.silent = false →
      ∃ t, exec (.lspd (laneBody n ++ [v1, v0])) s = .next t ∧
        t.port = answering s.port 0x0A (.done (be2 (max (s.lane n).g s.cal.values.crawl) ++ be2 T)) ∧
        (t.lane n).g = max (s.lane n).g s.cal.values.crawl ∧ (t.lane n).target = some T ∧
        (t.lane n).stamp = (s.lane n).stamp ∧ (t.lane n).graceMs = (s.lane n).graceMs ∧
        (t.lane n).key = (s.lane n).key ∧
        (T ≤ boundOf (s.bandsOf n) (t.lane n).g → (t.lane n).lead = none) ∧
        ((t.lane n).state = .running ↔ (s.lane n).state = .running) ∧ (t.lane n).state.moving = true ∧
        t.arbiter = { s.arbiter with
          queue := if n ∈ s.arbiter.queue then s.arbiter.queue else s.arbiter.queue ++ [n] } ∧
        FormedFrom s t ∧ KeepsAllBut [.lane n, .arbiter, .load, .lines, .port] s t) ∧
    (s.heartbeat.silent = true →
      exec (.lspd (laneBody n ++ [v1, v0])) s = .next (onlyAnswered s 0x0A (.refused 13 0)))

/-- LCLR (R56): a BROKEN lane whose input is away from its active level returns: with the dryer in PURGE or HEATING to
READY where its zones are in band and else to THREADING, otherwise to SUSPENDED without a hold; nothing else of the lane
but its state and its in-band state, and no other record, changes. It is refused in the other states and at the active
level. -/
def Obligations.LclrClears : Prop :=
  ∀ (s : State) (n : LaneId), ListeningAt s → Lawful s →
    ((s.lane n).state = .broken → s.inputActive n = false →
      ∃ t, exec (.lclr (laneBody n)) s = .next t ∧ t.port = answering s.port 0x0B (.done []) ∧
        t.lane n = { s.lane n with
          state := if s.dryer.state = .purge ∨ s.dryer.state = .heating then
            (if s.zonesInBand n = some true then .ready else .threading) else .suspended } ∧
        FormedFrom s t ∧ KeepsAllBut [.lane n, .load, .lines, .port] s t) ∧
    ((s.lane n).state = .broken → s.inputActive n = true →
      exec (.lclr (laneBody n)) s = .next (onlyAnswered s 0x0B (.refused 12 0))) ∧
    ((s.lane n).state = .broke →
      exec (.lclr (laneBody n)) s = .next (onlyAnswered s 0x0B (.refused 11 0))) ∧
    ((s.lane n).state ≠ .broke → (s.lane n).state ≠ .broken →
      exec (.lclr (laneBody n)) s = .next (onlyAnswered s 0x0B (.refused 9 0)))

/-! ## The dryer and the readings -/

/-- DSTART (R86): from OFF or SAFE_HOLD with a valid calibration the dryer enters PURGE with its timer, the accumulator
and the zero-window run at 0, the fan is asked for Q_purge, and the answer is the purge target; no lane, cause or flow
count changes. It is refused in the other states, and without a valid calibration. -/
def Obligations.DstartPurges : Prop :=
  ∀ s : State, ListeningAt s →
    (s.dryer.state = .off ∨ s.dryer.state = .safeHold → s.cal.valid = true →
      ∃ t, exec (.dstart []) s = .next t ∧
        t.port = answering s.port 0x10 (.done (be3 (4 * s.cal.values.volume * s.cal.values.pulsesPerM3))) ∧
        t.dryer = { s.dryer with state := .purge, purgeMs := 0 } ∧
        t.exhaust = { s.exhaust with accumulator := 0, zeroRun := 0 } ∧
        t.load.fanDemand = s.cal.values.qPurge ∧
        FormedFrom s t ∧ KeepsAllBut [.dryer, .exhaust, .load, .lines, .port] s t) ∧
    (s.dryer.state = .off ∨ s.dryer.state = .safeHold → s.cal.valid = false →
      exec (.dstart []) s = .next (onlyAnswered s 0x10 (.refused 14 0))) ∧
    (s.dryer.state ≠ .off → s.dryer.state ≠ .safeHold →
      exec (.dstart []) s = .next (onlyAnswered s 0x10 (.refused 9 0)))

/-- DSTOP (R58, R91, R92): from PURGE, SAFE_HOLD, or HEATING with no lane RUNNING the dryer enters COOLDOWN with its
timer at 0, or OFF with COOLDOWN_DONE where the housing is already cool; every THREADING and READY lane is suspended
with its residual hold, and no other lane changes. In HEATING with a lane RUNNING it is refused; in OFF and COOLDOWN it
changes nothing. -/
def Obligations.DstopCools : Prop :=
  ∀ s : State, ListeningAt s →
    (s.dryer.state = .purge ∨ s.dryer.state = .safeHold ∨
        s.dryer.state = .heating ∧ (∀ n, (s.lane n).state ≠ .running) →
      ∃ t, exec (.dstop []) s = .next t ∧ t.port = answering s.port 0x11 (.done [t.dryer.state.code]) ∧
        t.dryer = { s.dryer with
          state := if s.housingCool = true then .off else .cooldown, cooldownMs := 0 } ∧
        t.attention.latched =
          (if s.housingCool = true then s.attention.latched ||| 0x20000 else s.attention.latched) ∧
        (∀ n, (s.lane n).state = .threading ∨ (s.lane n).state = .ready → Stopped s t n .suspended) ∧
        (∀ n, (s.lane n).state ≠ .threading → (s.lane n).state ≠ .ready → t.lane n = s.lane n) ∧
        t.exhaust = { s.exhaust with zeroRun := 0 } ∧
        FormedFrom s t ∧
        KeepsAllBut (everyLane ++ [.arbiter, .dryer, .exhaust, .attention, .load, .lines, .port]) s t) ∧
    (s.dryer.state = .heating → (∃ n, (s.lane n).state = .running) →
      exec (.dstop []) s = .next (onlyAnswered s 0x11 (.refused 15 0))) ∧
    (s.dryer.state = .off ∨ s.dryer.state = .cooldown →
      exec (.dstop []) s = .next (onlyAnswered s 0x11 (.done [s.dryer.state.code])))

/-- RDG (R73, R100, R101, R106): pairs of known channels, none twice, are taken together: each channel named holds its
value clamped, is fresh and of age 0, and the other channels stay; the cut flag of each zone named is judged, with
ZONE_OVERTEMP latched and its lane in the lane set for each flag set (made against the setpoints before any suspension,
the model's choice, assumption 30); with an analyzer fitted its value steps or clears the excess count; in COOLDOWN a
request that names a zone ends it where the housing is then cool (R92); the answer counts the pairs and the clamped
ones. A count outside 1 to 22, a wrong length, and an unknown or repeated channel are refused, and nothing is taken. -/
def Obligations.RdgTakes : Prop :=
  ∀ (s : State) (count : Byte) (rest : List Byte), ListeningAt s → rest.length ≤ 66 →
    (∀ pairs, checkPairs 1 [] (readPairs count.toNat rest) = .ok pairs → 1 ≤ count.toNat → count.toNat ≤ 22 →
      rest.length = 3 * count.toNat →
      ∃ t, exec (.rdg (count :: rest)) s = .next t ∧
        t.port = answering s.port 0x14
          (.done [count, byteOf (pairs.filter fun p => p.1.clamp p.2 ≠ p.2).length]) ∧
        (∀ p ∈ pairs, t.reading p.1 = ⟨some (p.1.clamp p.2), true, 0⟩) ∧
        (∀ c, (∀ p ∈ pairs, p.1 ≠ c) → t.reading c = s.reading c) ∧
        (∀ n z v, (Channel.zone n z, v) ∈ pairs → (t.cuts.get n).get z =
          if (s.cuts.get n).get z = true then decide ((s.setpoint n z : Int) < (Channel.zone n z).clamp v)
          else decide ((s.cutPoint n z : Int) < (Channel.zone n z).clamp v)) ∧
        (∀ n z, (∀ p ∈ pairs, p.1 ≠ .zone n z) → (t.cuts.get n).get z = (s.cuts.get n).get z) ∧
        (∀ n, t.attention.sets.zoneOvertemp &&& n.bit ≠ 0 ↔ s.attention.sets.zoneOvertemp &&& n.bit ≠ 0 ∨
          ∃ z, (s.cuts.get n).get z = false ∧ (t.cuts.get n).get z = true) ∧
        (t.attention.isLatched .zoneOvertemp = true ↔ s.attention.isLatched .zoneOvertemp = true ∨
          ∃ n z, (s.cuts.get n).get z = false ∧ (t.cuts.get n).get z = true) ∧
        (s.dryer.state = .cooldown →
          ((∃ p ∈ pairs, p.1.isZone = true) ∧ (∀ n z, (t.reading (.zone n z)).fresh = true ∧
              ∃ v, (t.reading (.zone n z)).value = some v ∧ v ≤ (s.cal.values.cooldownTemp : Int)) →
            t.dryer = { s.dryer with state := .off } ∧ t.attention.isLatched .cooldownDone = true ∧
            t.load.fanDemand = 0 ∧ t.lines.fan = 0) ∧
          (¬((∃ p ∈ pairs, p.1.isZone = true) ∧ (∀ n z, (t.reading (.zone n z)).fresh = true ∧
              ∃ v, (t.reading (.zone n z)).value = some v ∧ v ≤ (s.cal.values.cooldownTemp : Int))) →
            t.dryer = s.dryer ∧
              t.attention.isLatched .cooldownDone = s.attention.isLatched .cooldownDone)) ∧
        (∀ v, (Channel.analyzer, v) ∈ pairs → s.cal.values.analyzerFitted = true → t.arbiter.excess =
          if (t.load.activeLimit : Int) < Channel.analyzer.clamp v then min 2 (s.arbiter.excess + 1) else 0) ∧
        ((∀ p ∈ pairs, p.1 ≠ .analyzer) ∨ s.cal.values.analyzerFitted = false →
          t.arbiter.excess = s.arbiter.excess) ∧
        (∀ n, (t.lane n).key = (s.lane n).key) ∧
        KeepsAllBut (everyLane ++ [.readings, .cuts, .arbiter, .exhaust, .dryer, .attention, .horn, .load, .lines,
          .port]) s t) ∧
    (count.toNat = 0 ∨ 22 < count.toNat →
      exec (.rdg (count :: rest)) s = .next (onlyAnswered s 0x14 (.refused 3 0))) ∧
    (1 ≤ count.toNat → count.toNat ≤ 22 → rest.length ≠ 3 * count.toNat →
      exec (.rdg (count :: rest)) s = .next (onlyAnswered s 0x14 (.refused 2 0))) ∧
    ∀ k, checkPairs 1 [] (readPairs count.toNat rest) = .error k → 1 ≤ count.toNat → count.toNat ≤ 22 →
      rest.length = 3 * count.toNat →
      exec (.rdg (count :: rest)) s = .next (onlyAnswered s 0x14 (.refused 3 (byteOf k)))

/-- An ANALYZER reading at or above 50 %LEL with an analyzer fitted, taken in PURGE or HEATING (R93, R94): the dryer
enters SAFE_HOLD for ANALYZER_HIGH, both causes are latched, every lane in THREADING, READY or RUNNING is suspended with
its residual hold, no lane keeps an entry that moved, the fan is asked for Q_max, every burner is off and the horn
sounds. Taken in OFF, COOLDOWN or SAFE_HOLD it latches ANALYZER_HIGH and changes no dryer record, no lane, no horn and
no other cause (R95); with no analyzer fitted it changes nothing of these in any state (R109). -/
def Obligations.AnalyzerHighHolds : Prop :=
  (∀ (s : State) (v1 v0 : Byte), ListeningAt s → 50 ≤ readSigned v1 v0 →
    s.cal.values.analyzerFitted = false ∨
      s.dryer.state = .off ∨ s.dryer.state = .cooldown ∨ s.dryer.state = .safeHold →
    ∃ t, exec (.rdg [1, 21, v1, v0]) s = .next t ∧
      t.attention = { s.attention with
        latched := if s.cal.values.analyzerFitted = true then s.attention.latched ||| 8 else s.attention.latched } ∧
      KeepsAllBut [.readings, .attention, .arbiter, .load, .lines, .port] s t) ∧
  ∀ (s : State) (v1 v0 : Byte), ListeningAt s → s.cal.values.analyzerFitted = true →
    s.dryer.state = .purge ∨ s.dryer.state = .heating → 50 ≤ readSigned v1 v0 →
    ∃ t, exec (.rdg [1, 21, v1, v0]) s = .next t ∧
      t.dryer = { s.dryer with state := .safeHold, lastCause := some .analyzerHigh } ∧
      t.attention.latched = s.attention.latched ||| 0x0A ∧
      (∀ n, (s.lane n).state.moving = true → Stopped s t n .suspended) ∧
      (∀ n, (s.lane n).state.moving = false → t.lane n = s.lane n) ∧
      t.load.fanDemand = s.cal.values.qMax ∧
      (∀ n z, (t.lines.burners.get n).get z = false) ∧ t.horn = ⟨none, true⟩ ∧ t.lines.horn = true ∧
      t.lines.attention = true

/-! ## Breaks -/

/-- A confirmed break on a THREADING, READY or RUNNING lane (R54, R114, R115, R116), by its input's timer, by an
addressed LBRK or by a broadcast one: the lane enters BREAK with its residual hold and its grace, BREAK is latched with
the lane in its set, the horn's cadence starts unless the horn sounds continuously, and no other lane changes. On a lane
in another state it changes no lane, no cause and no horn record. LBRK of lane 0, addressed or broadcast, breaks every
such lane; a number above 4 is refused. That CONFIRMED_BREAK of an input whose timer is idle changes nothing is the
model's reading (DEDUCED, assumption 15). -/
def Obligations.BreakTakesLane : Prop :=
  (∀ (s : State) (n : LaneId), s.powered = true →
    (∀ ms, (s.breakInput n).timer = some ms → ∃ t, exec (.confirmedBreak n) s = .next t ∧
      t.port = s.port ∧ t.breakInput n = { s.breakInput n with timer := none } ∧
      (∀ m, m ≠ n → t.breakInput m = s.breakInput m) ∧ BreakEffect s t n ∧
      KeepsAllBut [.lane n, .arbiter, .attention, .horn, .breaks, .load, .lines] s t) ∧
    ((s.breakInput n).timer = none → exec (.confirmedBreak n) s = .next s)) ∧
  (∀ (s : State) (n : LaneId), Listening s →
    (s.port.address ≠ 0 → ∃ t, exec (.lbrk (laneBody n)) s = .next t ∧
      t.port = answering s.port 0x0C
        (.done [if (s.lane n).state.moving = true then n.bit.zeroExtend 8 else 0]) ∧ BreakEffect s t n ∧
      KeepsAllBut [.lane n, .arbiter, .attention, .horn, .load, .lines, .port] s t) ∧
    ∃ t, exec (.lbrkBroadcast (laneBody n)) s = .next t ∧ t.port = huntingOn s.port ∧ BreakEffect s t n ∧
      KeepsAllBut [.lane n, .arbiter, .attention, .horn, .load, .lines, .port] s t) ∧
  (∀ s : State, Listening s → ∃ t, exec (.lbrkBroadcast [0]) s = .next t ∧ t.port = huntingOn s.port ∧
    (∀ n, (s.lane n).state.moving = true →
      Stopped s t n .broke ∧ t.attention.sets.webBreak &&& n.bit ≠ 0 ∧ t.attention.isLatched .webBreak = true) ∧
    (∀ n, (s.lane n).state.moving = false → t.lane n = s.lane n) ∧
    KeepsAllBut (everyLane ++ [.arbiter, .attention, .horn, .load, .lines, .port]) s t) ∧
  (∀ s : State, ListeningAt s → ∃ t b, exec (.lbrk [0]) s = .next t ∧
    t.port = answering s.port 0x0C (.done [b]) ∧
    (∀ n, (b &&& n.bit.zeroExtend 8 ≠ 0 ↔ (s.lane n).state.moving = true)) ∧
    (∀ n, (s.lane n).state.moving = true →
      Stopped s t n .broke ∧ t.attention.sets.webBreak &&& n.bit ≠ 0 ∧ t.attention.isLatched .webBreak = true) ∧
    (∀ n, (s.lane n).state.moving = false → t.lane n = s.lane n) ∧
    KeepsAllBut (everyLane ++ [.arbiter, .attention, .horn, .load, .lines, .port]) s t) ∧
  ∀ (s : State) (k : Byte), ListeningAt s → 4 < k.toNat →
    exec (.lbrk [k]) s = .next (onlyAnswered s 0x0C (.refused 3 1)) ∧
    exec (.lbrkBroadcast [k]) s =
      .next { s with port := discarding s.port .broadcast (gapMs s.port.rate) }

/-- BREAK_INPUT_CHANGE and CADENCE_PHASE_END (R112, R120, R121): a level that reaches the active one starts the
confirmation at its full time, a level that leaves it cancels it, and no other record changes; a cadence goes from an on
phase to its off phase, from that to the next pulse, and after the third pulse ends. That the end of a phase with no
cadence running changes nothing is the model's reading (DEDUCED, assumption 15). -/
def Obligations.BreakInputsAndHorn : Prop :=
  ∀ s : State, s.powered = true →
    (∀ (n : LaneId) (level : Bool), ∃ t, exec (.breakInputChange n level) s = .next t ∧
      (t.breakInput n).level = level ∧
      (t.breakInput n).timer =
        (if level = (s.breakInput n).level then (s.breakInput n).timer
        else if level = s.cal.values.activeHigh.get n then some s.cal.values.confirmMs else none) ∧
      (∀ m, m ≠ n → t.breakInput m = s.breakInput m) ∧ KeepsAllBut [.breaks] s t) ∧
    (∀ c, s.horn.cadence = some c → ∃ t, exec .cadencePhaseEnd s = .next t ∧
      t.horn.continuous = s.horn.continuous ∧
      t.horn.cadence =
        (if c.on = true then some ⟨false, c.pulse, 500⟩
        else if c.pulse < 3 then some ⟨true, c.pulse + 1, 500⟩ else none) ∧
      FormedFrom s t ∧ KeepsAllBut [.horn, .load, .lines] s t) ∧
    (s.horn.cadence = none → exec .cadencePhaseEnd s = .next s)

/-! ## Timers and windows of the lanes, the flow and the dryer -/

/-- ENCODER_EDGE and ENCODER_WINDOW (R61, R62): an edge at least 7 µs after the last counted one is counted, saturating;
a window sets the measured speed from its edges and those of the window before, and the overspeed judgement follows
it. -/
def Obligations.EncoderCounts : Prop :=
  ∀ (s : State) (n : LaneId), s.powered = true →
    (∀ gap : Nat, ∃ t, exec (.encoderEdge n gap) s = .next t ∧ KeepsAllBut [.lane n] s t ∧
      (7 ≤ (s.lane n).encoder.sinceUs + gap → t.lane n = { s.lane n with encoder := { (s.lane n).encoder with
        edges := min 65535 ((s.lane n).encoder.edges + 1), sinceUs := 0 } }) ∧
      ((s.lane n).encoder.sinceUs + gap < 7 → t.lane n = { s.lane n with encoder := { (s.lane n).encoder with
        sinceUs := (s.lane n).encoder.sinceUs + gap } })) ∧
    ∀ m, m = min 1500
      (((s.lane n).encoder.previous + (s.lane n).encoder.edges) * 60 / s.cal.values.encoderPpm.get n) →
    ∀ limit, limit = (s.lane n).g + max 10 ((s.lane n).g / 20) →
    ∃ t, exec (.encoderWindow n) s = .next t ∧
      t.lane n = { s.lane n with
        measured := m
        encoder := { (s.lane n).encoder with previous := (s.lane n).encoder.edges, edges := 0, windowMs := 0 }
        overCount := (t.lane n).overCount
        overspeed := (t.lane n).overspeed } ∧
      ((s.lane n).state.moving = false →
        (t.lane n).overCount = (s.lane n).overCount ∧ (t.lane n).overspeed = (s.lane n).overspeed) ∧
      ((s.lane n).state.moving = true → m ≤ limit → (t.lane n).overCount = 0 ∧ (t.lane n).overspeed = false) ∧
      ((s.lane n).state.moving = true → limit < m → 0 < (s.lane n).graceMs →
        (t.lane n).overCount = 0 ∧ (t.lane n).overspeed = (s.lane n).overspeed) ∧
      ((s.lane n).state.moving = true → limit < m → (s.lane n).graceMs = 0 → (s.lane n).overCount = 0 →
        (t.lane n).overCount = 1 ∧ (t.lane n).overspeed = (s.lane n).overspeed) ∧
      ((s.lane n).state.moving = true → limit < m → (s.lane n).graceMs = 0 → (s.lane n).overCount = 1 →
        (t.lane n).overCount = 2 ∧ (t.lane n).overspeed = true ∧ t.attention = { s.attention with
          latched := s.attention.latched ||| 0x400
          sets := { s.attention.sets with overspeed := s.attention.sets.overspeed ||| n.bit } }) ∧
      ((s.lane n).state.moving = true → limit < m → (s.lane n).graceMs = 0 → 2 ≤ (s.lane n).overCount →
        (t.lane n).overCount = (s.lane n).overCount ∧ (t.lane n).overspeed = (s.lane n).overspeed) ∧
      (¬((s.lane n).state.moving = true ∧ limit < m ∧ (s.lane n).graceMs = 0 ∧ (s.lane n).overCount = 1) →
        t.attention = s.attention) ∧
      FormedFrom s t ∧ KeepsAllBut [.lane n, .attention, .load, .lines] s t

/-- RESIDUAL_HOLD_EXPIRY, DECEL_GRACE_EXPIRY and BAND_LEAD_TIMEOUT (R49, R55, R80): a hold that ends leaves no residual
load, and takes a lane in BREAK to BROKEN; a grace that ends is 0; a LEADING lane's timer stops at the timeout and the
cause is latched once. That a lane for which the timer does not run is not changed is the model's reading (DEDUCED,
assumption 15). -/
def Obligations.LaneTimers : Prop :=
  ∀ (s : State) (n : LaneId), s.powered = true →
    ((s.lane n).residual ≠ none → ∃ t, exec (.residualHoldExpiry n) s = .next t ∧
      t.lane n = { s.lane n with
        residual := none, residualMs := 0
        state := if (s.lane n).state = .broke then .broken else (s.lane n).state } ∧
      FormedFrom s t ∧ KeepsAllBut [.lane n, .load, .lines] s t) ∧
    ((s.lane n).residual = none → exec (.residualHoldExpiry n) s = .next s) ∧
    (∃ t, exec (.decelGraceExpiry n) s = .next t ∧ t.lane n = { s.lane n with graceMs := 0 } ∧
      KeepsAllBut [.lane n] s t) ∧
    ((s.lane n).isLeading = true → (s.lane n).leadMs < s.cal.values.leadTimeout * 1000 →
      ∃ t, exec (.bandLeadTimeout n) s = .next t ∧
        t.lane n = { s.lane n with leadMs := s.cal.values.leadTimeout * 1000 } ∧
        t.attention = { s.attention with
          latched := s.attention.latched ||| 0x100
          sets := { s.attention.sets with bandLeadTimeout := s.attention.sets.bandLeadTimeout ||| n.bit } } ∧
        FormedFrom s t ∧ KeepsAllBut [.lane n, .attention, .load, .lines] s t) ∧
    ((s.lane n).isLeading = false ∨ s.cal.values.leadTimeout * 1000 ≤ (s.lane n).leadMs →
      exec (.bandLeadTimeout n) s = .next s)

/-- EVALUATION (R35, R36, R69, R70, R73, R74, R75): in HEATING the concentration is estimated afresh from the flow and
the total load found, and the peak follows it; the period starts again; no profile, reading, calibration, port or store
record changes. In another state the expiry only starts the period again. Where the load fits, an analyzer excess count
of 2 is used up and lowers the RUNNING lane of the highest stamp by one ramp step, not below crawl, with WITHDRAWN, and
no other lane, whether or not an analyzer is fitted (DEDUCED, assumption 22); with the count at 0 or 1 it stays, and each RUNNING lane's hot-web count goes up by one, is set to 0 or
stays as its chill exit says, and at 10 lowers the lane by one ramp step with HOT_WEB. -/
def Obligations.EvaluationFigures : Prop :=
  (∀ s : State, s.powered = true →
    (s.dryer.state = .heating → ∃ t, exec .evaluation s = .next t ∧
      t.load.estimated =
        (if s.totalLoad = 0 then 0 else if s.exhaust.qMeas = 0 then 999
        else min 999 ((s.totalLoad * 100 + (s.cal.values.cl * s.exhaust.qMeas - 1)) /
          (s.cal.values.cl * s.exhaust.qMeas))) ∧
      t.load.peak = max s.load.peak t.load.estimated ∧ t.load.activeLimit = s.load.activeLimit ∧
      t.arbiter.evalMs = 0 ∧ t.exhaust = { s.exhaust with zeroRun := t.exhaust.zeroRun } ∧
      (∀ n, (t.lane n).key = (s.lane n).key ∧ (t.lane n).measured = (s.lane n).measured ∧
        (t.lane n).encoder = (s.lane n).encoder) ∧
      KeepsAllBut (everyLane ++ [.arbiter, .load, .dryer, .exhaust, .attention, .horn, .lines]) s t) ∧
    (s.dryer.state ≠ .heating →
      exec .evaluation s = .next { s with arbiter := { s.arbiter with evalMs := 0 } })) ∧
  ∀ s : State, Lawful s → s.powered = true → s.dryer.state = .heating → s.totalLoad ≤ s.capacity →
    ∃ t, exec .evaluation s = .next t ∧ t.dryer = s.dryer ∧
      t.arbiter.excess = (if s.arbiter.excess = 2 then 0 else s.arbiter.excess) ∧
      (s.arbiter.excess = 2 → (∀ n, (s.lane n).hotWeb < 9) →
        (∀ n, FirstToLower s n →
          LoweredIn s t n (max s.cal.values.crawl ((s.lane n).g - s.cal.values.rampStep)) ∧
          t.attention.isLatched .withdrawn = true ∧ t.attention.sets.withdrawn &&& n.bit ≠ 0) ∧
        ∀ n, ¬FirstToLower s n → (s.lane n).g ≤ (t.lane n).g) ∧
      (s.arbiter.excess ≠ 2 → ∀ n, (s.lane n).state = .running →
        ((s.reading (.chillExit n)).fresh = false → (t.lane n).hotWeb = (s.lane n).hotWeb) ∧
        ((s.reading (.chillExit n)).fresh = true → ¬WebTooHot s n → (t.lane n).hotWeb = 0) ∧
        (WebTooHot s n → (s.lane n).hotWeb < 9 → (t.lane n).hotWeb = (s.lane n).hotWeb + 1) ∧
        (WebTooHot s n → 9 ≤ (s.lane n).hotWeb → (t.lane n).hotWeb = 0 ∧
          LoweredIn s t n (max s.cal.values.crawl ((s.lane n).g - s.cal.values.rampStep)) ∧
          t.attention.isLatched .hotWeb = true ∧ t.attention.sets.hotWeb &&& n.bit ≠ 0) ∧
        (¬WebTooHot s n ∨ (s.lane n).hotWeb < 9 → (s.lane n).g ≤ (t.lane n).g))

/-- FLOW_PULSE and FLOW_WINDOW (R84, R85, R87, R88): a pulse at least 7 µs after the last counted one is counted,
saturating; a window shifts the history and forms Q_meas. In PURGE the accumulator takes the window's count, or 0 below
the floor or on a lost flow, and at the target the dryer enters HEATING and every suspended lane returns, its break input, where
it is at its active level with an idle timer, starting its confirmation (R114); in HEATING a lost flow sends it to
SAFE_HOLD; elsewhere nothing is judged. Queue and stamps change only by what a suspension takes out, and no other break
input changes. -/
def Obligations.FlowWindows : Prop :=
  ∀ s : State, s.powered = true →
    (∀ gap : Nat,
      exec (.flowPulse gap) s = .next { s with exhaust :=
        if 7 ≤ s.exhaust.sinceUs + gap then
          { s.exhaust with count := min 65535 (s.exhaust.count + 1), sinceUs := 0 }
        else { s.exhaust with sinceUs := s.exhaust.sinceUs + gap } }) ∧
    ∀ q, q = (s.exhaust.history.older + s.exhaust.history.newer + s.exhaust.history.newest + s.exhaust.count) * 30 /
      s.cal.values.pulsesPerM3 →
    ∀ lost, lost = decide (s.exhaust.count = 0 ∧ 3 ≤ s.exhaust.zeroRun) →
    ∀ acc, acc = (if lost = true ∨ 10000 < s.dryer.purgeMs ∧ q < s.cal.values.qPurge * 3 / 4 then 0
      else s.exhaust.accumulator + s.exhaust.count) →
    ∃ t, exec .flowWindow s = .next t ∧
      t.exhaust.history = ⟨s.exhaust.history.older, s.exhaust.history.newer, s.exhaust.history.newest,
        s.exhaust.count⟩ ∧
      t.exhaust.qMeas = q ∧ t.exhaust.count = 0 ∧ t.exhaust.windowMs = 0 ∧
      t.exhaust.sinceUs = s.exhaust.sinceUs ∧
      (s.dryer.state ≠ .purge → t.exhaust.accumulator = s.exhaust.accumulator) ∧
      (s.dryer.state ≠ .purge → s.dryer.state ≠ .heating →
        t.dryer = s.dryer ∧ t.exhaust.zeroRun = s.exhaust.zeroRun ∧ t.attention = s.attention ∧
          ∀ n, t.lane n = s.lane n) ∧
      (s.dryer.state = .heating →
        (lost = true → t.dryer = { s.dryer with state := .safeHold, lastCause := some .flowLost } ∧
          t.attention.latched = s.attention.latched ||| 6 ∧ t.exhaust.zeroRun = 0 ∧
          (∀ n, (s.lane n).state.moving = true → Stopped s t n .suspended)) ∧
        (lost = false → t.dryer = s.dryer ∧ t.attention = s.attention ∧ (∀ n, t.lane n = s.lane n) ∧
          t.exhaust.zeroRun = if 0 < s.exhaust.count then 0 else s.exhaust.zeroRun + 1)) ∧
      (s.dryer.state = .purge → t.exhaust.accumulator = acc ∧
        t.attention.latched = (if lost = true then s.attention.latched ||| 4 else s.attention.latched) ∧
        (4 * s.cal.values.volume * s.cal.values.pulsesPerM3 ≤ acc →
          t.dryer = { s.dryer with state := .heating } ∧ t.exhaust.zeroRun = 0 ∧
          (∀ n, (s.lane n).state ≠ .suspended → t.lane n = s.lane n) ∧
          (InBandLaw s → ∀ n, (s.lane n).state = .suspended → resumed s t n) ∧
          ∀ n, (t.breakInput n).level = (s.breakInput n).level ∧ (t.breakInput n).timer =
            (if (s.lane n).state = .suspended ∧ s.inputActive n = true ∧ (s.breakInput n).timer = none then
              some s.cal.values.confirmMs
            else (s.breakInput n).timer)) ∧
        (acc < 4 * s.cal.values.volume * s.cal.values.pulsesPerM3 →
          t.dryer = s.dryer ∧ t.breaks = s.breaks ∧ (∀ n, t.lane n = s.lane n) ∧
          t.exhaust.zeroRun = if lost = true ∨ 0 < s.exhaust.count then 0 else s.exhaust.zeroRun + 1)) ∧
      (s.dryer.state ≠ .purge → t.breaks = s.breaks) ∧
      t.attention = { s.attention with latched := t.attention.latched } ∧
      t.horn = (if lost = true ∧ (s.dryer.state = .purge ∨ s.dryer.state = .heating) then ⟨none, true⟩ else s.horn) ∧
      t.arbiter = { s.arbiter with queue :=
        (if s.dryer.state = .heating ∧ lost = true then
          s.arbiter.queue.filter fun n => (s.lane n).state.moving = false
        else s.arbiter.queue) } ∧
      FormedFrom s t ∧
      KeepsAllBut (everyLane ++ [.arbiter, .exhaust, .dryer, .breaks, .attention, .horn, .load, .lines]) s t

/-- PURGE_FAILED and COOLDOWN_TIMEOUT (R58, R89, R92): a purge timer at 600 s takes the dryer from PURGE to OFF with
PURGE_FAILED, every THREADING and READY lane suspended; a cooldown timer at 1800 s takes it from COOLDOWN to OFF with
COOLDOWN_DONE. That in another state neither changes anything is the model's reading (DEDUCED, assumption 15). -/
def Obligations.DryerTimeouts : Prop :=
  ∀ s : State, s.powered = true →
    (s.dryer.state = .purge → ∃ t, exec .purgeFailed s = .next t ∧
      t.dryer = { s.dryer with state := .off, purgeMs := 600000 } ∧
      t.attention = { s.attention with latched := s.attention.latched ||| 0x10 } ∧
      (∀ n, (s.lane n).state = .threading ∨ (s.lane n).state = .ready → Stopped s t n .suspended) ∧
      (∀ n, (s.lane n).state ≠ .threading → (s.lane n).state ≠ .ready → t.lane n = s.lane n) ∧
      t.exhaust = { s.exhaust with zeroRun := 0 } ∧ t.load.fanDemand = 0 ∧ FormedFrom s t ∧
      KeepsAllBut (everyLane ++ [.arbiter, .dryer, .exhaust, .attention, .load, .lines]) s t) ∧
    (s.dryer.state ≠ .purge → exec .purgeFailed s = .next s) ∧
    (s.dryer.state = .cooldown → ∃ t, exec .cooldownTimeout s = .next t ∧
      t.dryer = { s.dryer with state := .off, cooldownMs := 1800000 } ∧
      t.attention = { s.attention with latched := s.attention.latched ||| 0x20000 } ∧
      t.exhaust = { s.exhaust with zeroRun := 0 } ∧ t.load.fanDemand = 0 ∧ FormedFrom s t ∧
      KeepsAllBut [.dryer, .exhaust, .attention, .load, .lines] s t) ∧
    (s.dryer.state ≠ .cooldown → exec .cooldownTimeout s = .next s)

/-- READING_STALE (R102, R103, R109): a fresh channel goes stale: its age stops at the stale age, its value stays, the
cause is latched for its lane, or with the common indication where it has none; the other channels stay, and where it is
a zone's the lane of it is out of band. That the command of a stale channel changes nothing is the model's reading (DEDUCED,
assumption 15). -/
def Obligations.ReadingGoesStale : Prop :=
  ∀ (s : State) (c : Channel), s.powered = true →
    ((s.reading c).fresh = true → ∃ t, exec (.readingStale c) s = .next t ∧
      t.reading c = { s.reading c with fresh := false, ageMs := s.cal.values.staleAge * 1000 } ∧
      (∀ d, d ≠ c → t.reading d = s.reading d) ∧
      t.attention = { s.attention with
        latched := s.attention.latched ||| 0x1000
        sets := { s.attention.sets with
          readingStale := s.attention.sets.readingStale ||| ((c.lane.map LaneId.bit).getD 0) }
        staleCommon := s.attention.staleCommon || c.lane.isNone } ∧
      (∀ n, c.lane ≠ some n ∨ c.isZone = false → t.lane n = s.lane n) ∧
      (∀ n z, c = .zone n z → ∀ p, s.profileOf n = some p →
        (t.lane n).inBand = some false ∧ (t.lane n).state ≠ .ready ∧
        ((s.lane n).state ≠ .ready → (t.lane n).state = (s.lane n).state) ∧
        (t.lane n).g = (s.lane n).g ∧ (t.lane n).target = (s.lane n).target) ∧
      t.load.activeLimit = (if c = .analyzer then s.cal.values.normalLimit else s.load.activeLimit) ∧
      t.arbiter.excess =
        (if c = .analyzer ∧ s.cal.values.analyzerFitted = true then 0 else s.arbiter.excess) ∧
      KeepsAllBut (everyLane ++ [.readings, .attention, .arbiter, .load, .lines]) s t) ∧
    ((s.reading c).fresh = false → exec (.readingStale c) s = .next s)

/-! ## Attention and heartbeat -/

/-- BEAT (R143): it arms the supervisor, starts its timer at the full timeout and ends master-silent; addressed, it is
answered with whether that held; with a body it is refused, or counted as a broadcast discard. -/
def Obligations.BeatArms : Prop :=
  ∀ s : State, Listening s →
    (s.port.address ≠ 0 →
      exec (.beat false []) s = .next { s with
        heartbeat := ⟨true, s.cal.values.heartbeatTenths * 100, false⟩
        port := answering s.port 0x18 (.done [if s.heartbeat.silent then 1 else 0]) }) ∧
    exec (.beat true []) s = .next { s with
      heartbeat := ⟨true, s.cal.values.heartbeatTenths * 100, false⟩, port := huntingOn s.port } ∧
    ∀ body : List Byte, body ≠ [] → body.length ≤ 96 →
      (s.port.address ≠ 0 → exec (.beat false body) s = .next (onlyAnswered s 0x18 (.refused 2 0))) ∧
      exec (.beat true body) s = .next { s with port := discarding s.port .broadcast (gapMs s.port.rate) }

/-- ATCLR and ATMSK (R138, R141, R142): every named cause is cleared with its whole detail and no other; the horn's
continuous condition and the line follow, and the answer is the record that ATRD would now give; a mask keeps the named
routine causes only. A set that names a cause above 17 is refused. -/
def Obligations.AtclrAndAtmsk : Prop :=
  ∀ (s : State) (a b c : Byte), ListeningAt s →
    (a.toNat < 4 → ∃ t bytes, exec (.atclr [a, b, c]) s = .next t ∧
      t.port = answering s.port 0x1A (.done bytes) ∧
      exec (.atrd []) { t with port := s.port } = .next (onlyAnswered { t with port := s.port } 0x19 (.done bytes)) ∧
      (∀ i < 18, t.attention.latched.getLsbD i =
        (s.attention.latched.getLsbD i && !(a ++ b ++ c : BitVec 24).getLsbD i)) ∧
      t.attention.sets.webBreak = (if c.getLsbD 0 = true then 0 else s.attention.sets.webBreak) ∧
      t.attention.sets.grantReached = (if c.getLsbD 6 = true then 0 else s.attention.sets.grantReached) ∧
      t.attention.sets.withdrawn = (if c.getLsbD 7 = true then 0 else s.attention.sets.withdrawn) ∧
      t.attention.sets.bandLeadTimeout = (if b.getLsbD 0 = true then 0 else s.attention.sets.bandLeadTimeout) ∧
      t.attention.sets.hotWeb = (if b.getLsbD 1 = true then 0 else s.attention.sets.hotWeb) ∧
      t.attention.sets.overspeed = (if b.getLsbD 2 = true then 0 else s.attention.sets.overspeed) ∧
      t.attention.sets.zoneOvertemp = (if b.getLsbD 3 = true then 0 else s.attention.sets.zoneOvertemp) ∧
      t.attention.sets.readingStale = (if b.getLsbD 4 = true then 0 else s.attention.sets.readingStale) ∧
      t.attention.staleCommon = (s.attention.staleCommon && !b.getLsbD 4) ∧
      t.attention.faultSlots = (if b.getLsbD 7 = true then 0 else s.attention.faultSlots) ∧
      t.attention.faultCalibration = (s.attention.faultCalibration && !b.getLsbD 7) ∧
      t.attention.slotsLost = (if a.getLsbD 0 = true then 0 else s.attention.slotsLost) ∧
      t.attention.mask = s.attention.mask ∧
      t.horn.continuous = (t.attention.isLatched .safeHold || t.attention.isLatched .flowLost) ∧
      t.horn.cadence = (if t.horn.continuous = true then none else s.horn.cadence) ∧
      FormedFrom s t ∧ KeepsAllBut [.attention, .horn, .load, .lines, .port] s t) ∧
    (a.toNat < 4 → ∃ t, exec (.atmsk [a, b, c]) s = .next t ∧
      t.port = answering s.port 0x1B (.done (be3 t.attention.mask.toNat)) ∧
      t.attention = { s.attention with mask := t.attention.mask } ∧
      (∀ i < 18, t.attention.mask.getLsbD i = (decide (6 ≤ i) && (a ++ b ++ c : BitVec 24).getLsbD i)) ∧
      FormedFrom s t ∧ KeepsAllBut [.attention, .load, .lines, .port] s t) ∧
    (4 ≤ a.toNat →
      exec (.atclr [a, b, c]) s = .next (onlyAnswered s 0x1A (.refused 3 1)) ∧
      exec (.atmsk [a, b, c]) s = .next (onlyAnswered s 0x1B (.refused 3 1)))

/-- MASTER_SILENT (R144): with the supervisor armed and not yet silent, master-silent begins with its timer at 0, the
cause is latched, the queue is empty, no lane has a target or a lead, and every lane above crawl is lowered to crawl
with its grace and stands in READY or THREADING; other speeds stay. That otherwise nothing changes is the model's
reading (DEDUCED, assumption 15). -/
def Obligations.MasterSilentBegins : Prop :=
  ∀ s : State, Lawful s → s.powered = true →
    (s.heartbeat.armed = true → s.heartbeat.silent = false → ∃ t, exec .masterSilent s = .next t ∧
      t.heartbeat = ⟨true, 0, true⟩ ∧
      t.attention = { s.attention with latched := s.attention.latched ||| 0x20 } ∧
      t.arbiter = { s.arbiter with queue := [] } ∧
      (∀ n, (t.lane n).g = min (s.lane n).g (max s.cal.values.crawl 0) ∧ (t.lane n).target = none ∧
        (t.lane n).lead = none ∧ (t.lane n).key = (s.lane n).key ∧ (t.lane n).stamp = (s.lane n).stamp ∧
        (t.lane n).graceMs =
          (if s.cal.values.crawl < (s.lane n).g then s.cal.values.decelGrace * 1000 else (s.lane n).graceMs) ∧
        ((s.lane n).state = .running → (t.lane n).state = .ready ∨ (t.lane n).state = .threading) ∧
        ((s.lane n).state.moving = false → (t.lane n).state = (s.lane n).state)) ∧
      FormedFrom s t ∧
      KeepsAllBut (everyLane ++ [.heartbeat, .attention, .arbiter, .load, .lines]) s t) ∧
    (s.heartbeat.armed = false ∨ s.heartbeat.silent = true → exec .masterSilent s = .next s)

/-! ## The line link -/

/-- Frames that the part takes no request from (R131): an addressed code of no request is refused UNKNOWN_REQUEST,
another station's frame changes nothing but the port's idle time, and a broadcast of a request that is not BEAT or LBRK
is counted as a BROADCAST discard. -/
def Obligations.FramesNotTaken : Prop :=
  ∀ (s : State) (code : Byte) (body : List Byte), Listening s → body.length ≤ 96 →
    (s.port.address ≠ 0 → code ∉ requestCodes →
      exec (.unknownRequest code body) s = .next (onlyAnswered s code (.refused 1 0))) ∧
    (∀ a : Byte, a ≠ 0 → a.toNat ≠ s.port.address.toNat →
      exec (.otherStationFrame a code body) s = .next { s with port := huntingOn s.port }) ∧
    (code ≠ 0x18 → code ≠ 0x0C →
      exec (.broadcastDiscard code body) s =
        .next { s with port := discarding s.port .broadcast (gapMs s.port.rate) })

/-- Frames that are discarded, and characters that are ignored (R124, R128, R129, R130). Of a frame in arrival whose
characters are good so far: a bad character discards it, with the kind of its error; a third character above 96
discards it for its length; a last character that makes the check wrong discards it; silence discards it as short; a
character after a whole good frame discards it as overlong. A character heard in HUNT too soon after another is
ignored. Nothing but the port changes. -/
def Obligations.DiscardedFrames : Prop :=
  (∀ (s : State) (cs : List LineChar) (c : LineChar), Listening s → startsFrame (cs ++ [c]) = true →
    partialFrame cs = true →
    (c.bad = true →
      exec (.frameDiscard (cs ++ [c])) s = .next { s with port := discarding s.port c.errorKind 0 } ∧
      (c.framingError = false → c.overrun = false → c.errorKind = .parity) ∧
      (c.parityError = false → c.overrun = false → c.errorKind = .framing) ∧
      (c.parityError = false → c.framingError = false → c.errorKind = .overrun) ∧
      (c.errorKind = .parity ∨ c.errorKind = .framing ∨ c.errorKind = .overrun)) ∧
    (c.bad = false → cs.length = 2 → 96 < c.data.toNat →
      exec (.frameDiscard (cs ++ [c])) s = .next { s with port := discarding s.port .length 0 }) ∧
    (c.bad = false → 4 ≤ cs.length → frameGood (dataOf (cs ++ [c])) = false →
      cs.length = 4 + ((dataOf cs).getD 2 0).toNat →
      exec (.frameDiscard (cs ++ [c])) s = .next { s with port := discarding s.port .check 0 }) ∧
    (cs ≠ [] → exec (.shortFrame cs) s =
      .next { s with port := discarding s.port .short (gapMs s.port.rate) })) ∧
  (∀ (s : State) (cs : List LineChar) (extra : LineChar), Listening s → startsFrame cs = true →
    wholeGoodFrame cs = true →
    exec (.overlongFrame cs extra) s = .next { s with port := discarding s.port .overlong 0 }) ∧
  ∀ (s : State) (c : LineChar), Listening s → c.afterGap = false → s.port.idleMs < gapMs s.port.rate →
    exec (.frameDiscard [c]) s = .next { s with port := { s.port with idleMs := 0 } }

/-- An answer on the line (R132, R133): it is begun, and at its end the port hunts; a character that reads back
different or bad, or one heard before the answer has begun, abandons it for a collision, counted, and a good character
after 4 character times of idle then starts a frame. Nothing but the port changes, so the request stays taken. That a
port not in ANSWER is not changed (assumption 15), and that a busy line abandons the answer to an SRST like any other
(assumption 20), are the model's readings (DEDUCED). -/
def Obligations.AnswerOnTheLine : Prop :=
  ∀ s : State, s.powered = true →
    (s.port.state = .answer → s.port.driving = false →
      exec .answerBegin s = .next { s with port := { s.port with driving := true, answerMs := 0 } } ∧
      (∀ c : LineChar, c.afterGap = false → s.port.idleMs < gapMs s.port.rate →
        exec (.collision (.busyLine c)) s = .next { s with port := colliding s.port }) ∧
      (∀ c : LineChar, c.afterGap = true → c.bad = false → s.resetAccepted = false → s.port.held = false →
        exec (.collision (.busyLine c)) s =
          .next { s with port := { colliding s.port with state := .receive, rx := [c.data] } })) ∧
    (s.port.state = .answer → s.port.driving = true →
      exec .answerEnd s = .next { s with port := { s.port with
        state := .hunt, rx := [], answer := [], answerMs := 0, driving := false, idleMs := 0 } } ∧
      ∀ (i : Nat) (sent : Byte) (heard : LineChar), s.port.answer[i]? = some sent →
        (heard.bad = true ∨ heard.data ≠ sent →
          exec (.collision (.readback i heard)) s = .next { s with port := colliding s.port }) ∧
        (heard.bad = false → heard.data = sent → exec (.collision (.readback i heard)) s = .next s)) ∧
    (s.port.state ≠ .answer →
      exec .answerBegin s = .next s ∧ exec .answerEnd s = .next s ∧
        ∀ e, exec (.collision e) s = .next s)

/-- The link-free input (R134): the event clears the port's conversation and nothing else, no count among it; while it
is held no character is taken; at its release the idle time begins. -/
def Obligations.LinkFreeInput : Prop :=
  ∀ s : State, s.powered = true →
    exec .linkFree s = .next { s with port := { s.port with
      state := .hunt, rx := [], answer := [], answerMs := 0, driving := false, held := true, idleMs := 0 } } ∧
    (s.port.held = true →
      exec .linkFreeRelease s = .next { s with port := { s.port with held := false, idleMs := 0 } } ∧
      (∀ cs : List LineChar, exec (.frameDiscard cs) s = .next s) ∧
      ∀ code body, exec (.unknownRequest code body) s = .next s) ∧
    (s.port.held = false → exec .linkFreeRelease s = .next s)

/-! ## The store, the calibration, reset and power -/

/-- SCOMMIT (R147): with no commit in flight it takes its snapshot: each marked slot index in ascending order with the
record tied to it or its absence, and the calibration if it is changed; an empty one ends at once with STORE_DONE. A body
is refused. -/
def Obligations.ScommitSnapshots : Prop :=
  ∀ s : State, ListeningAt s → TableLaw s → s.commit = none →
    (∃ t writes image, exec (.scommit []) s = .next t ∧
      t.port = answering s.port 0x20 (.done [byteOf writes.length, if s.cal.changed then 1 else 0]) ∧
      image = (if s.cal.changed = true then some s.cal.values.toValues else none) ∧
      t.commit = (if s.marks = 0 ∧ s.cal.changed = false then none else some ⟨writes, image, 0, 0⟩) ∧
      writes.map Prod.fst = (List.range 48).filter (fun i => s.marks.getLsbD i) ∧
      (∀ w ∈ writes, (∀ p ∈ s.profiles, p.slot = w.1 → w.2 = some p.toProfileImage) ∧
        ((∀ p ∈ s.profiles, p.slot ≠ w.1) → w.2 = none)) ∧
      t.attention = { s.attention with
        latched := if s.marks = 0 ∧ s.cal.changed = false then s.attention.latched ||| 0x4000
          else s.attention.latched } ∧
      FormedFrom s t ∧ KeepsAllBut [.commit, .attention, .load, .lines, .port] s t) ∧
    ∀ body : List Byte, body ≠ [] → body.length ≤ 96 →
      exec (.scommit body) s = .next (onlyAnswered s 0x20 (.refused 2 0))

/-- SLOT_WRITE_DONE (R146, R148): a verified write leaves the snapshot's image, or an erased slot, and clears the mark
unless it was set again; a failed one leaves an undefined content, keeps the mark and latches STORE_FAULT for the slot;
the commit goes on with what is left, or ends with STORE_DONE. The undefined content is a free value (assumptions 8, 9),
and that with no commit nothing changes is the model's reading (DEDUCED, assumption 15). -/
def Obligations.SlotWriteEnds : Prop :=
  ∀ s : State, s.powered = true →
    (∀ c, s.commit = some c →
      (∀ i image rest, c.writes = (i, image) :: rest → i < 48 →
        ∃ t u, exec (.slotWriteDone true) s = .next t ∧ exec (.slotWriteDone false) s = .next u ∧
          t.store.slots = s.store.slots.set i (match image with | some x => .image x | none => .erased) ∧
          t.store.calibration = s.store.calibration ∧
          (∀ j < 48, t.marks.getLsbD j = (s.marks.getLsbD j && (j != i || c.remarked.getLsbD i))) ∧
          t.attention = { s.attention with
            latched := if rest = [] ∧ c.calibration = none then s.attention.latched ||| 0x4000
              else s.attention.latched } ∧
          t.commit = (if rest = [] ∧ c.calibration = none then none
            else some { c with writes := rest, elapsedMs := 0 }) ∧
          FormedFrom s t ∧ KeepsAllBut [.store, .marks, .attention, .commit, .load, .lines] s t ∧
          u.store = { s.store with slots := s.store.slots.set i (.undefined s.freeIndex) } ∧
          u.attention = { s.attention with
            latched := (if rest = [] ∧ c.calibration = none then s.attention.latched ||| 0xC000
              else s.attention.latched ||| 0x8000)
            faultSlots := s.attention.faultSlots ||| 1#48 <<< i } ∧
          u.commit = t.commit ∧
          FormedFrom s u ∧ KeepsAllBut [.store, .attention, .commit, .freeIndex, .load, .lines] s u) ∧
      (∀ v, c.calibration = some v → c.writes = [] →
        ∃ t u, exec (.slotWriteDone true) s = .next t ∧ exec (.slotWriteDone false) s = .next u ∧
          t.store = { s.store with calibration := .image v } ∧ t.cal = { s.cal with changed := false } ∧
          t.attention = { s.attention with latched := s.attention.latched ||| 0x4000 } ∧ t.commit = none ∧
          FormedFrom s t ∧ KeepsAllBut [.store, .cal, .attention, .commit, .load, .lines] s t ∧
          u.store = { s.store with calibration := .undefined s.freeIndex } ∧ u.cal = s.cal ∧
          u.attention = { s.attention with
            latched := s.attention.latched ||| 0xC000, faultCalibration := true } ∧ u.commit = none ∧
          FormedFrom s u ∧ KeepsAllBut [.store, .attention, .commit, .freeIndex, .load, .lines] s u)) ∧
    (s.commit = none → ∀ v, exec (.slotWriteDone v) s = .next s)

/-- CWR (R29, R102, R113, R152): in OFF, with no commit, a block in range is taken whole, valid and changed; the active
limit, the freshness of every channel and the break inputs are judged afresh by it at once; READING_STALE is latched for
the channels that this makes stale, and a lane whose zone is among them is out of band (R103); the queue and the stamps
stay (of the excess count nothing is said, assumption 31). In another dryer state, or
with a block of a wrong length or out of range, it is refused and takes nothing. -/
def Obligations.CwrTakes : Prop :=
  ∀ (s : State) (body : List Byte), ListeningAt s → s.commit = none → body.length ≤ 96 →
    (s.dryer.state = .off → ∀ v, readCalibration body = some v →
      (firstFailed (calibrationTests v) = none → ∃ t, exec (.cwr body) s = .next t ∧
        t.port = answering s.port 0x22 (.done []) ∧ t.cal = ⟨.ofValues v, true, true⟩ ∧
        t.load.activeLimit =
          (if t.cal.values.analyzerFitted = true ∧ (t.reading .analyzer).fresh = true then
            t.cal.values.monitoredLimit else t.cal.values.normalLimit) ∧
        (∀ c, t.reading c =
          if (s.reading c).fresh = true ∧ t.cal.values.staleAge * 1000 ≤ (s.reading c).ageMs then
            { s.reading c with fresh := false } else s.reading c) ∧
        (∀ n, (t.breakInput n).level = (s.breakInput n).level ∧ (t.breakInput n).timer =
          if t.inputActive n = s.inputActive n then (s.breakInput n).timer
          else if t.inputActive n = true then some t.cal.values.confirmMs else none) ∧
        (∀ n, (t.lane n).g = (s.lane n).g ∧ (t.lane n).key = (s.lane n).key ∧ (t.lane n).target = (s.lane n).target) ∧
        (∀ n, (∀ z, (t.reading (.zone n z)).fresh = (s.reading (.zone n z)).fresh) → t.lane n = s.lane n) ∧
        (∀ n z, (s.reading (.zone n z)).fresh = true → (t.reading (.zone n z)).fresh = false →
          ∀ p, s.profileOf n = some p → (t.lane n).inBand = some false ∧
            (t.lane n).state = if (s.lane n).state = .ready then .threading else (s.lane n).state) ∧
        t.attention = { s.attention with
          latched := t.attention.latched
          sets := { s.attention.sets with readingStale := t.attention.sets.readingStale }
          staleCommon := t.attention.staleCommon } ∧
        ((∀ c, (t.reading c).fresh = (s.reading c).fresh) → t.attention.latched = s.attention.latched) ∧
        (∀ c, (s.reading c).fresh = true → (t.reading c).fresh = false →
          t.attention.latched = s.attention.latched ||| 0x1000) ∧
        (∀ n, t.attention.sets.readingStale &&& n.bit ≠ 0 ↔ s.attention.sets.readingStale &&& n.bit ≠ 0 ∨
          ∃ c, c.lane = some n ∧ (s.reading c).fresh = true ∧ (t.reading c).fresh = false) ∧
        (t.attention.staleCommon = true ↔ s.attention.staleCommon = true ∨
          ∃ c, c.lane = none ∧ (s.reading c).fresh = true ∧ (t.reading c).fresh = false) ∧
        t.arbiter = { s.arbiter with excess := t.arbiter.excess } ∧
        t.load = { s.load with activeLimit := t.load.activeLimit, fanDemand := 0 } ∧ t.lines = t.formLines ∧
        KeepsAllBut (everyLane ++ [.cal, .readings, .breaks, .attention, .arbiter, .load, .lines, .port]) s t) ∧
      (∀ i, firstFailed (calibrationTests v) = some i →
        exec (.cwr body) s = .next (onlyAnswered s 0x22 (.refused 3 (byteOf i))))) ∧
    (s.dryer.state = .off → body.length ≠ 34 →
      exec (.cwr body) s = .next (onlyAnswered s 0x22 (.refused 2 0))) ∧
    (s.dryer.state ≠ .off → exec (.cwr body) s = .next (onlyAnswered s 0x22 (.refused 9 0)))

/-- SRST and STATION_RESET (R136, R149, R150, R153): in OFF the request is accepted, in another state or with a body
refused; once its answer has ended and no commit is in flight, the reset gives every block its reset values over the
store as it stands, reads the straps, and keeps the link counts and the last-error kind. That no edge is too close to
one before the reset and that the timer of a disarmed supervisor is 0 are the model's choices (assumptions 13, 14), and
that the command changes nothing before the reset is due is its reading (DEDUCED, assumption 15). -/
def Obligations.SrstAndStationReset : Prop :=
  (∀ s : State, ListeningAt s →
    (s.dryer.state = .off → exec (.srst []) s = .next { s with
      resetAccepted := true, port := answering s.port 0x28 (.done []) }) ∧
    (s.dryer.state ≠ .off → exec (.srst []) s = .next (onlyAnswered s 0x28 (.refused 9 0))) ∧
    ∀ body : List Byte, body ≠ [] → body.length ≤ 96 →
      exec (.srst body) s = .next (onlyAnswered s 0x28 (.refused 2 0))) ∧
  ∀ (s : State) (straps : Straps),
    (s.powered = true → s.resetAccepted = true → s.port.state ≠ .answer → s.commit = none →
      s.store.slots.length = 48 →
      ∃ t, exec (.stationReset straps) s = .next t ∧ Restarted t straps (fun n => (s.breakInput n).level) ∧
        t.store = s.store ∧ t.port.lastError = s.port.lastError ∧ t.port.discarded = s.port.discarded ∧
        t.port.collisions = s.port.collisions ∧ t.pending = s.pending) ∧
    (s.powered = false ∨ s.resetAccepted = false ∨ s.port.state = .answer ∨ s.commit ≠ none →
      exec (.stationReset straps) s = .next s)

/-- POWER_LOSS and POWER_ON (R146, R149, R150): a loss of the supply leaves the store as it stands but for the slot
being written, whose content is undefined (a free value, assumptions 8, 9); POWER_ON gives every block its power-on
values over the store as it stands, the link counts at 0. That every line is low without the supply and that no command
but POWER_ON then changes anything are the model's choices (assumption 12); so are the microseconds since an edge and
the timer of a disarmed supervisor after it (assumptions 13, 14). Of the working memory without the supply nothing is
said. -/
def Obligations.PowerLossAndOn : Prop :=
  (∀ s : State, s.powered = true → ∃ t, exec .powerLoss s = .next t ∧ t.powered = false ∧
    t.lines = State.reset.lines ∧ t.pending = s.pending ∧
    (s.commit = none → t.store = s.store) ∧
    (∀ c, s.commit = some c → t.store =
      match c.writes with
      | (i, _) :: _ => { s.store with slots := s.store.slots.set i (.undefined s.freeIndex) }
      | [] => { s.store with calibration := .undefined s.freeIndex })) ∧
  (∀ (s : State) (c : Instr), s.powered = false → (∀ straps levels, c ≠ .powerOn straps levels) →
    exec c s = .next s) ∧
  ∀ (s : State) (straps : Straps) (levels : BitVec 4), s.powered = false → s.store.slots.length = 48 →
    ∃ t, exec (.powerOn straps levels) s = .next t ∧
      Restarted t straps (fun n => levels.getLsbD (n.number - 1)) ∧ t.store = s.store ∧
      t.port.lastError = .none ∧ t.port.discarded = 0 ∧ t.port.collisions = 0 ∧ t.pending = s.pending
end

