-- ==== Sys2Proof/Laws/State.lean ====
section
/-! SUPPORT. One lemma for each field that an update of State leaves as it was, so that no proof unfolds a record
update. -/

namespace Sys2Proof.Machine

/-! ## setLane -/

@[simp] theorem State.setLane_powered (s : State) (n : LaneId) (l : Lane) : (s.setLane n l).powered = s.powered := rfl
@[simp] theorem State.setLane_straps (s : State) (n : LaneId) (l : Lane) : (s.setLane n l).straps = s.straps := rfl
@[simp] theorem State.setLane_profiles (s : State) (n : LaneId) (l : Lane) : (s.setLane n l).profiles = s.profiles := rfl
@[simp] theorem State.setLane_marks (s : State) (n : LaneId) (l : Lane) : (s.setLane n l).marks = s.marks := rfl
@[simp] theorem State.setLane_cal (s : State) (n : LaneId) (l : Lane) : (s.setLane n l).cal = s.cal := rfl
@[simp] theorem State.setLane_load (s : State) (n : LaneId) (l : Lane) : (s.setLane n l).load = s.load := rfl
@[simp] theorem State.setLane_arbiter (s : State) (n : LaneId) (l : Lane) : (s.setLane n l).arbiter = s.arbiter := rfl
@[simp] theorem State.setLane_exhaust (s : State) (n : LaneId) (l : Lane) : (s.setLane n l).exhaust = s.exhaust := rfl
@[simp] theorem State.setLane_dryer (s : State) (n : LaneId) (l : Lane) : (s.setLane n l).dryer = s.dryer := rfl
@[simp] theorem State.setLane_readings (s : State) (n : LaneId) (l : Lane) : (s.setLane n l).readings = s.readings := rfl
@[simp] theorem State.setLane_cuts (s : State) (n : LaneId) (l : Lane) : (s.setLane n l).cuts = s.cuts := rfl
@[simp] theorem State.setLane_breaks (s : State) (n : LaneId) (l : Lane) : (s.setLane n l).breaks = s.breaks := rfl
@[simp] theorem State.setLane_horn (s : State) (n : LaneId) (l : Lane) : (s.setLane n l).horn = s.horn := rfl
@[simp] theorem State.setLane_port (s : State) (n : LaneId) (l : Lane) : (s.setLane n l).port = s.port := rfl
@[simp] theorem State.setLane_resetAccepted (s : State) (n : LaneId) (l : Lane) : (s.setLane n l).resetAccepted = s.resetAccepted := rfl
@[simp] theorem State.setLane_attention (s : State) (n : LaneId) (l : Lane) : (s.setLane n l).attention = s.attention := rfl
@[simp] theorem State.setLane_heartbeat (s : State) (n : LaneId) (l : Lane) : (s.setLane n l).heartbeat = s.heartbeat := rfl
@[simp] theorem State.setLane_store (s : State) (n : LaneId) (l : Lane) : (s.setLane n l).store = s.store := rfl
@[simp] theorem State.setLane_commit (s : State) (n : LaneId) (l : Lane) : (s.setLane n l).commit = s.commit := rfl
@[simp] theorem State.setLane_lines (s : State) (n : LaneId) (l : Lane) : (s.setLane n l).lines = s.lines := rfl
@[simp] theorem State.setLane_freeIndex (s : State) (n : LaneId) (l : Lane) : (s.setLane n l).freeIndex = s.freeIndex := rfl
@[simp] theorem State.setLane_owed (s : State) (n : LaneId) (l : Lane) : (s.setLane n l).owed = s.owed := rfl
@[simp] theorem State.setLane_pending (s : State) (n : LaneId) (l : Lane) : (s.setLane n l).pending = s.pending := rfl

/-! ## modLane -/

@[simp] theorem State.modLane_powered (s : State) (n : LaneId) (f : Lane → Lane) : (s.modLane n f).powered = s.powered := rfl
@[simp] theorem State.modLane_straps (s : State) (n : LaneId) (f : Lane → Lane) : (s.modLane n f).straps = s.straps := rfl
@[simp] theorem State.modLane_profiles (s : State) (n : LaneId) (f : Lane → Lane) : (s.modLane n f).profiles = s.profiles := rfl
@[simp] theorem State.modLane_marks (s : State) (n : LaneId) (f : Lane → Lane) : (s.modLane n f).marks = s.marks := rfl
@[simp] theorem State.modLane_cal (s : State) (n : LaneId) (f : Lane → Lane) : (s.modLane n f).cal = s.cal := rfl
@[simp] theorem State.modLane_load (s : State) (n : LaneId) (f : Lane → Lane) : (s.modLane n f).load = s.load := rfl
@[simp] theorem State.modLane_arbiter (s : State) (n : LaneId) (f : Lane → Lane) : (s.modLane n f).arbiter = s.arbiter := rfl
@[simp] theorem State.modLane_exhaust (s : State) (n : LaneId) (f : Lane → Lane) : (s.modLane n f).exhaust = s.exhaust := rfl
@[simp] theorem State.modLane_dryer (s : State) (n : LaneId) (f : Lane → Lane) : (s.modLane n f).dryer = s.dryer := rfl
@[simp] theorem State.modLane_readings (s : State) (n : LaneId) (f : Lane → Lane) : (s.modLane n f).readings = s.readings := rfl
@[simp] theorem State.modLane_cuts (s : State) (n : LaneId) (f : Lane → Lane) : (s.modLane n f).cuts = s.cuts := rfl
@[simp] theorem State.modLane_breaks (s : State) (n : LaneId) (f : Lane → Lane) : (s.modLane n f).breaks = s.breaks := rfl
@[simp] theorem State.modLane_horn (s : State) (n : LaneId) (f : Lane → Lane) : (s.modLane n f).horn = s.horn := rfl
@[simp] theorem State.modLane_port (s : State) (n : LaneId) (f : Lane → Lane) : (s.modLane n f).port = s.port := rfl
@[simp] theorem State.modLane_resetAccepted (s : State) (n : LaneId) (f : Lane → Lane) : (s.modLane n f).resetAccepted = s.resetAccepted := rfl
@[simp] theorem State.modLane_attention (s : State) (n : LaneId) (f : Lane → Lane) : (s.modLane n f).attention = s.attention := rfl
@[simp] theorem State.modLane_heartbeat (s : State) (n : LaneId) (f : Lane → Lane) : (s.modLane n f).heartbeat = s.heartbeat := rfl
@[simp] theorem State.modLane_store (s : State) (n : LaneId) (f : Lane → Lane) : (s.modLane n f).store = s.store := rfl
@[simp] theorem State.modLane_commit (s : State) (n : LaneId) (f : Lane → Lane) : (s.modLane n f).commit = s.commit := rfl
@[simp] theorem State.modLane_lines (s : State) (n : LaneId) (f : Lane → Lane) : (s.modLane n f).lines = s.lines := rfl
@[simp] theorem State.modLane_freeIndex (s : State) (n : LaneId) (f : Lane → Lane) : (s.modLane n f).freeIndex = s.freeIndex := rfl
@[simp] theorem State.modLane_owed (s : State) (n : LaneId) (f : Lane → Lane) : (s.modLane n f).owed = s.owed := rfl
@[simp] theorem State.modLane_pending (s : State) (n : LaneId) (f : Lane → Lane) : (s.modLane n f).pending = s.pending := rfl

/-! ## settle -/

@[simp] theorem State.settle_powered (s : State) (n : LaneId) : (s.settle n).powered = s.powered := rfl
@[simp] theorem State.settle_straps (s : State) (n : LaneId) : (s.settle n).straps = s.straps := rfl
@[simp] theorem State.settle_profiles (s : State) (n : LaneId) : (s.settle n).profiles = s.profiles := rfl
@[simp] theorem State.settle_marks (s : State) (n : LaneId) : (s.settle n).marks = s.marks := rfl
@[simp] theorem State.settle_cal (s : State) (n : LaneId) : (s.settle n).cal = s.cal := rfl
@[simp] theorem State.settle_load (s : State) (n : LaneId) : (s.settle n).load = s.load := rfl
@[simp] theorem State.settle_arbiter (s : State) (n : LaneId) : (s.settle n).arbiter = s.arbiter := rfl
@[simp] theorem State.settle_exhaust (s : State) (n : LaneId) : (s.settle n).exhaust = s.exhaust := rfl
@[simp] theorem State.settle_dryer (s : State) (n : LaneId) : (s.settle n).dryer = s.dryer := rfl
@[simp] theorem State.settle_readings (s : State) (n : LaneId) : (s.settle n).readings = s.readings := rfl
@[simp] theorem State.settle_cuts (s : State) (n : LaneId) : (s.settle n).cuts = s.cuts := rfl
@[simp] theorem State.settle_breaks (s : State) (n : LaneId) : (s.settle n).breaks = s.breaks := rfl
@[simp] theorem State.settle_horn (s : State) (n : LaneId) : (s.settle n).horn = s.horn := rfl
@[simp] theorem State.settle_port (s : State) (n : LaneId) : (s.settle n).port = s.port := rfl
@[simp] theorem State.settle_resetAccepted (s : State) (n : LaneId) : (s.settle n).resetAccepted = s.resetAccepted := rfl
@[simp] theorem State.settle_attention (s : State) (n : LaneId) : (s.settle n).attention = s.attention := rfl
@[simp] theorem State.settle_heartbeat (s : State) (n : LaneId) : (s.settle n).heartbeat = s.heartbeat := rfl
@[simp] theorem State.settle_store (s : State) (n : LaneId) : (s.settle n).store = s.store := rfl
@[simp] theorem State.settle_commit (s : State) (n : LaneId) : (s.settle n).commit = s.commit := rfl
@[simp] theorem State.settle_lines (s : State) (n : LaneId) : (s.settle n).lines = s.lines := rfl
@[simp] theorem State.settle_freeIndex (s : State) (n : LaneId) : (s.settle n).freeIndex = s.freeIndex := rfl
@[simp] theorem State.settle_owed (s : State) (n : LaneId) : (s.settle n).owed = s.owed := rfl
@[simp] theorem State.settle_pending (s : State) (n : LaneId) : (s.settle n).pending = s.pending := rfl

/-! ## setReading -/

@[simp] theorem State.setReading_powered (s : State) (c : Channel) (r : Reading) : (s.setReading c r).powered = s.powered := by cases c <;> rfl
@[simp] theorem State.setReading_straps (s : State) (c : Channel) (r : Reading) : (s.setReading c r).straps = s.straps := by cases c <;> rfl
@[simp] theorem State.setReading_profiles (s : State) (c : Channel) (r : Reading) : (s.setReading c r).profiles = s.profiles := by cases c <;> rfl
@[simp] theorem State.setReading_marks (s : State) (c : Channel) (r : Reading) : (s.setReading c r).marks = s.marks := by cases c <;> rfl
@[simp] theorem State.setReading_cal (s : State) (c : Channel) (r : Reading) : (s.setReading c r).cal = s.cal := by cases c <;> rfl
@[simp] theorem State.setReading_load (s : State) (c : Channel) (r : Reading) : (s.setReading c r).load = s.load := by cases c <;> rfl
@[simp] theorem State.setReading_lanes (s : State) (c : Channel) (r : Reading) : (s.setReading c r).lanes = s.lanes := by cases c <;> rfl
@[simp] theorem State.setReading_arbiter (s : State) (c : Channel) (r : Reading) : (s.setReading c r).arbiter = s.arbiter := by cases c <;> rfl
@[simp] theorem State.setReading_exhaust (s : State) (c : Channel) (r : Reading) : (s.setReading c r).exhaust = s.exhaust := by cases c <;> rfl
@[simp] theorem State.setReading_dryer (s : State) (c : Channel) (r : Reading) : (s.setReading c r).dryer = s.dryer := by cases c <;> rfl
@[simp] theorem State.setReading_cuts (s : State) (c : Channel) (r : Reading) : (s.setReading c r).cuts = s.cuts := by cases c <;> rfl
@[simp] theorem State.setReading_breaks (s : State) (c : Channel) (r : Reading) : (s.setReading c r).breaks = s.breaks := by cases c <;> rfl
@[simp] theorem State.setReading_horn (s : State) (c : Channel) (r : Reading) : (s.setReading c r).horn = s.horn := by cases c <;> rfl
@[simp] theorem State.setReading_port (s : State) (c : Channel) (r : Reading) : (s.setReading c r).port = s.port := by cases c <;> rfl
@[simp] theorem State.setReading_resetAccepted (s : State) (c : Channel) (r : Reading) : (s.setReading c r).resetAccepted = s.resetAccepted := by cases c <;> rfl
@[simp] theorem State.setReading_attention (s : State) (c : Channel) (r : Reading) : (s.setReading c r).attention = s.attention := by cases c <;> rfl
@[simp] theorem State.setReading_heartbeat (s : State) (c : Channel) (r : Reading) : (s.setReading c r).heartbeat = s.heartbeat := by cases c <;> rfl
@[simp] theorem State.setReading_store (s : State) (c : Channel) (r : Reading) : (s.setReading c r).store = s.store := by cases c <;> rfl
@[simp] theorem State.setReading_commit (s : State) (c : Channel) (r : Reading) : (s.setReading c r).commit = s.commit := by cases c <;> rfl
@[simp] theorem State.setReading_lines (s : State) (c : Channel) (r : Reading) : (s.setReading c r).lines = s.lines := by cases c <;> rfl
@[simp] theorem State.setReading_freeIndex (s : State) (c : Channel) (r : Reading) : (s.setReading c r).freeIndex = s.freeIndex := by cases c <;> rfl
@[simp] theorem State.setReading_owed (s : State) (c : Channel) (r : Reading) : (s.setReading c r).owed = s.owed := by cases c <;> rfl
@[simp] theorem State.setReading_pending (s : State) (c : Channel) (r : Reading) : (s.setReading c r).pending = s.pending := by cases c <;> rfl

/-! ## setBreakInput -/

@[simp] theorem State.setBreakInput_powered (s : State) (n : LaneId) (b : BreakInput) : (s.setBreakInput n b).powered = s.powered := rfl
@[simp] theorem State.setBreakInput_straps (s : State) (n : LaneId) (b : BreakInput) : (s.setBreakInput n b).straps = s.straps := rfl
@[simp] theorem State.setBreakInput_profiles (s : State) (n : LaneId) (b : BreakInput) : (s.setBreakInput n b).profiles = s.profiles := rfl
@[simp] theorem State.setBreakInput_marks (s : State) (n : LaneId) (b : BreakInput) : (s.setBreakInput n b).marks = s.marks := rfl
@[simp] theorem State.setBreakInput_cal (s : State) (n : LaneId) (b : BreakInput) : (s.setBreakInput n b).cal = s.cal := rfl
@[simp] theorem State.setBreakInput_load (s : State) (n : LaneId) (b : BreakInput) : (s.setBreakInput n b).load = s.load := rfl
@[simp] theorem State.setBreakInput_lanes (s : State) (n : LaneId) (b : BreakInput) : (s.setBreakInput n b).lanes = s.lanes := rfl
@[simp] theorem State.setBreakInput_arbiter (s : State) (n : LaneId) (b : BreakInput) : (s.setBreakInput n b).arbiter = s.arbiter := rfl
@[simp] theorem State.setBreakInput_exhaust (s : State) (n : LaneId) (b : BreakInput) : (s.setBreakInput n b).exhaust = s.exhaust := rfl
@[simp] theorem State.setBreakInput_dryer (s : State) (n : LaneId) (b : BreakInput) : (s.setBreakInput n b).dryer = s.dryer := rfl
@[simp] theorem State.setBreakInput_readings (s : State) (n : LaneId) (b : BreakInput) : (s.setBreakInput n b).readings = s.readings := rfl
@[simp] theorem State.setBreakInput_cuts (s : State) (n : LaneId) (b : BreakInput) : (s.setBreakInput n b).cuts = s.cuts := rfl
@[simp] theorem State.setBreakInput_horn (s : State) (n : LaneId) (b : BreakInput) : (s.setBreakInput n b).horn = s.horn := rfl
@[simp] theorem State.setBreakInput_port (s : State) (n : LaneId) (b : BreakInput) : (s.setBreakInput n b).port = s.port := rfl
@[simp] theorem State.setBreakInput_resetAccepted (s : State) (n : LaneId) (b : BreakInput) : (s.setBreakInput n b).resetAccepted = s.resetAccepted := rfl
@[simp] theorem State.setBreakInput_attention (s : State) (n : LaneId) (b : BreakInput) : (s.setBreakInput n b).attention = s.attention := rfl
@[simp] theorem State.setBreakInput_heartbeat (s : State) (n : LaneId) (b : BreakInput) : (s.setBreakInput n b).heartbeat = s.heartbeat := rfl
@[simp] theorem State.setBreakInput_store (s : State) (n : LaneId) (b : BreakInput) : (s.setBreakInput n b).store = s.store := rfl
@[simp] theorem State.setBreakInput_commit (s : State) (n : LaneId) (b : BreakInput) : (s.setBreakInput n b).commit = s.commit := rfl
@[simp] theorem State.setBreakInput_lines (s : State) (n : LaneId) (b : BreakInput) : (s.setBreakInput n b).lines = s.lines := rfl
@[simp] theorem State.setBreakInput_freeIndex (s : State) (n : LaneId) (b : BreakInput) : (s.setBreakInput n b).freeIndex = s.freeIndex := rfl
@[simp] theorem State.setBreakInput_owed (s : State) (n : LaneId) (b : BreakInput) : (s.setBreakInput n b).owed = s.owed := rfl
@[simp] theorem State.setBreakInput_pending (s : State) (n : LaneId) (b : BreakInput) : (s.setBreakInput n b).pending = s.pending := rfl

/-! ## setMark -/

@[simp] theorem State.setMark_powered (s : State) (i : Nat) : (s.setMark i).powered = s.powered := rfl
@[simp] theorem State.setMark_straps (s : State) (i : Nat) : (s.setMark i).straps = s.straps := rfl
@[simp] theorem State.setMark_profiles (s : State) (i : Nat) : (s.setMark i).profiles = s.profiles := rfl
@[simp] theorem State.setMark_cal (s : State) (i : Nat) : (s.setMark i).cal = s.cal := rfl
@[simp] theorem State.setMark_load (s : State) (i : Nat) : (s.setMark i).load = s.load := rfl
@[simp] theorem State.setMark_lanes (s : State) (i : Nat) : (s.setMark i).lanes = s.lanes := rfl
@[simp] theorem State.setMark_arbiter (s : State) (i : Nat) : (s.setMark i).arbiter = s.arbiter := rfl
@[simp] theorem State.setMark_exhaust (s : State) (i : Nat) : (s.setMark i).exhaust = s.exhaust := rfl
@[simp] theorem State.setMark_dryer (s : State) (i : Nat) : (s.setMark i).dryer = s.dryer := rfl
@[simp] theorem State.setMark_readings (s : State) (i : Nat) : (s.setMark i).readings = s.readings := rfl
@[simp] theorem State.setMark_cuts (s : State) (i : Nat) : (s.setMark i).cuts = s.cuts := rfl
@[simp] theorem State.setMark_breaks (s : State) (i : Nat) : (s.setMark i).breaks = s.breaks := rfl
@[simp] theorem State.setMark_horn (s : State) (i : Nat) : (s.setMark i).horn = s.horn := rfl
@[simp] theorem State.setMark_port (s : State) (i : Nat) : (s.setMark i).port = s.port := rfl
@[simp] theorem State.setMark_resetAccepted (s : State) (i : Nat) : (s.setMark i).resetAccepted = s.resetAccepted := rfl
@[simp] theorem State.setMark_attention (s : State) (i : Nat) : (s.setMark i).attention = s.attention := rfl
@[simp] theorem State.setMark_heartbeat (s : State) (i : Nat) : (s.setMark i).heartbeat = s.heartbeat := rfl
@[simp] theorem State.setMark_store (s : State) (i : Nat) : (s.setMark i).store = s.store := rfl
@[simp] theorem State.setMark_commit (s : State) (i : Nat) : (s.setMark i).commit = s.commit := rfl
@[simp] theorem State.setMark_lines (s : State) (i : Nat) : (s.setMark i).lines = s.lines := rfl
@[simp] theorem State.setMark_freeIndex (s : State) (i : Nat) : (s.setMark i).freeIndex = s.freeIndex := rfl
@[simp] theorem State.setMark_owed (s : State) (i : Nat) : (s.setMark i).owed = s.owed := rfl
@[simp] theorem State.setMark_pending (s : State) (i : Nat) : (s.setMark i).pending = s.pending := rfl

/-! ## setCut -/

@[simp] theorem State.setCut_powered (s : State) (n : LaneId) (z : ZoneId) (v : Bool) : (s.setCut n z v).powered = s.powered := rfl
@[simp] theorem State.setCut_straps (s : State) (n : LaneId) (z : ZoneId) (v : Bool) : (s.setCut n z v).straps = s.straps := rfl
@[simp] theorem State.setCut_profiles (s : State) (n : LaneId) (z : ZoneId) (v : Bool) : (s.setCut n z v).profiles = s.profiles := rfl
@[simp] theorem State.setCut_marks (s : State) (n : LaneId) (z : ZoneId) (v : Bool) : (s.setCut n z v).marks = s.marks := rfl
@[simp] theorem State.setCut_cal (s : State) (n : LaneId) (z : ZoneId) (v : Bool) : (s.setCut n z v).cal = s.cal := rfl
@[simp] theorem State.setCut_load (s : State) (n : LaneId) (z : ZoneId) (v : Bool) : (s.setCut n z v).load = s.load := rfl
@[simp] theorem State.setCut_lanes (s : State) (n : LaneId) (z : ZoneId) (v : Bool) : (s.setCut n z v).lanes = s.lanes := rfl
@[simp] theorem State.setCut_arbiter (s : State) (n : LaneId) (z : ZoneId) (v : Bool) : (s.setCut n z v).arbiter = s.arbiter := rfl
@[simp] theorem State.setCut_exhaust (s : State) (n : LaneId) (z : ZoneId) (v : Bool) : (s.setCut n z v).exhaust = s.exhaust := rfl
@[simp] theorem State.setCut_dryer (s : State) (n : LaneId) (z : ZoneId) (v : Bool) : (s.setCut n z v).dryer = s.dryer := rfl
@[simp] theorem State.setCut_readings (s : State) (n : LaneId) (z : ZoneId) (v : Bool) : (s.setCut n z v).readings = s.readings := rfl
@[simp] theorem State.setCut_breaks (s : State) (n : LaneId) (z : ZoneId) (v : Bool) : (s.setCut n z v).breaks = s.breaks := rfl
@[simp] theorem State.setCut_horn (s : State) (n : LaneId) (z : ZoneId) (v : Bool) : (s.setCut n z v).horn = s.horn := rfl
@[simp] theorem State.setCut_port (s : State) (n : LaneId) (z : ZoneId) (v : Bool) : (s.setCut n z v).port = s.port := rfl
@[simp] theorem State.setCut_resetAccepted (s : State) (n : LaneId) (z : ZoneId) (v : Bool) : (s.setCut n z v).resetAccepted = s.resetAccepted := rfl
@[simp] theorem State.setCut_attention (s : State) (n : LaneId) (z : ZoneId) (v : Bool) : (s.setCut n z v).attention = s.attention := rfl
@[simp] theorem State.setCut_heartbeat (s : State) (n : LaneId) (z : ZoneId) (v : Bool) : (s.setCut n z v).heartbeat = s.heartbeat := rfl
@[simp] theorem State.setCut_store (s : State) (n : LaneId) (z : ZoneId) (v : Bool) : (s.setCut n z v).store = s.store := rfl
@[simp] theorem State.setCut_commit (s : State) (n : LaneId) (z : ZoneId) (v : Bool) : (s.setCut n z v).commit = s.commit := rfl
@[simp] theorem State.setCut_lines (s : State) (n : LaneId) (z : ZoneId) (v : Bool) : (s.setCut n z v).lines = s.lines := rfl
@[simp] theorem State.setCut_freeIndex (s : State) (n : LaneId) (z : ZoneId) (v : Bool) : (s.setCut n z v).freeIndex = s.freeIndex := rfl
@[simp] theorem State.setCut_owed (s : State) (n : LaneId) (z : ZoneId) (v : Bool) : (s.setCut n z v).owed = s.owed := rfl
@[simp] theorem State.setCut_pending (s : State) (n : LaneId) (z : ZoneId) (v : Bool) : (s.setCut n z v).pending = s.pending := rfl

/-! ## latchLane -/

@[simp] theorem State.latchLane_powered (s : State) (c : Cause) (n : LaneId) : (s.latchLane c n).powered = s.powered := rfl
@[simp] theorem State.latchLane_straps (s : State) (c : Cause) (n : LaneId) : (s.latchLane c n).straps = s.straps := rfl
@[simp] theorem State.latchLane_profiles (s : State) (c : Cause) (n : LaneId) : (s.latchLane c n).profiles = s.profiles := rfl
@[simp] theorem State.latchLane_marks (s : State) (c : Cause) (n : LaneId) : (s.latchLane c n).marks = s.marks := rfl
@[simp] theorem State.latchLane_cal (s : State) (c : Cause) (n : LaneId) : (s.latchLane c n).cal = s.cal := rfl
@[simp] theorem State.latchLane_load (s : State) (c : Cause) (n : LaneId) : (s.latchLane c n).load = s.load := rfl
@[simp] theorem State.latchLane_lanes (s : State) (c : Cause) (n : LaneId) : (s.latchLane c n).lanes = s.lanes := rfl
@[simp] theorem State.latchLane_arbiter (s : State) (c : Cause) (n : LaneId) : (s.latchLane c n).arbiter = s.arbiter := rfl
@[simp] theorem State.latchLane_exhaust (s : State) (c : Cause) (n : LaneId) : (s.latchLane c n).exhaust = s.exhaust := rfl
@[simp] theorem State.latchLane_dryer (s : State) (c : Cause) (n : LaneId) : (s.latchLane c n).dryer = s.dryer := rfl
@[simp] theorem State.latchLane_readings (s : State) (c : Cause) (n : LaneId) : (s.latchLane c n).readings = s.readings := rfl
@[simp] theorem State.latchLane_cuts (s : State) (c : Cause) (n : LaneId) : (s.latchLane c n).cuts = s.cuts := rfl
@[simp] theorem State.latchLane_breaks (s : State) (c : Cause) (n : LaneId) : (s.latchLane c n).breaks = s.breaks := rfl
@[simp] theorem State.latchLane_horn (s : State) (c : Cause) (n : LaneId) : (s.latchLane c n).horn = s.horn := rfl
@[simp] theorem State.latchLane_port (s : State) (c : Cause) (n : LaneId) : (s.latchLane c n).port = s.port := rfl
@[simp] theorem State.latchLane_resetAccepted (s : State) (c : Cause) (n : LaneId) : (s.latchLane c n).resetAccepted = s.resetAccepted := rfl
@[simp] theorem State.latchLane_heartbeat (s : State) (c : Cause) (n : LaneId) : (s.latchLane c n).heartbeat = s.heartbeat := rfl
@[simp] theorem State.latchLane_store (s : State) (c : Cause) (n : LaneId) : (s.latchLane c n).store = s.store := rfl
@[simp] theorem State.latchLane_commit (s : State) (c : Cause) (n : LaneId) : (s.latchLane c n).commit = s.commit := rfl
@[simp] theorem State.latchLane_lines (s : State) (c : Cause) (n : LaneId) : (s.latchLane c n).lines = s.lines := rfl
@[simp] theorem State.latchLane_freeIndex (s : State) (c : Cause) (n : LaneId) : (s.latchLane c n).freeIndex = s.freeIndex := rfl
@[simp] theorem State.latchLane_owed (s : State) (c : Cause) (n : LaneId) : (s.latchLane c n).owed = s.owed := rfl
@[simp] theorem State.latchLane_pending (s : State) (c : Cause) (n : LaneId) : (s.latchLane c n).pending = s.pending := rfl

/-! ## latch -/

@[simp] theorem State.latch_powered (s : State) (c : Cause) : (s.latch c).powered = s.powered := by unfold State.latch; split <;> rfl
@[simp] theorem State.latch_straps (s : State) (c : Cause) : (s.latch c).straps = s.straps := by unfold State.latch; split <;> rfl
@[simp] theorem State.latch_profiles (s : State) (c : Cause) : (s.latch c).profiles = s.profiles := by unfold State.latch; split <;> rfl
@[simp] theorem State.latch_marks (s : State) (c : Cause) : (s.latch c).marks = s.marks := by unfold State.latch; split <;> rfl
@[simp] theorem State.latch_cal (s : State) (c : Cause) : (s.latch c).cal = s.cal := by unfold State.latch; split <;> rfl
@[simp] theorem State.latch_load (s : State) (c : Cause) : (s.latch c).load = s.load := by unfold State.latch; split <;> rfl
@[simp] theorem State.latch_lanes (s : State) (c : Cause) : (s.latch c).lanes = s.lanes := by unfold State.latch; split <;> rfl
@[simp] theorem State.latch_arbiter (s : State) (c : Cause) : (s.latch c).arbiter = s.arbiter := by unfold State.latch; split <;> rfl
@[simp] theorem State.latch_exhaust (s : State) (c : Cause) : (s.latch c).exhaust = s.exhaust := by unfold State.latch; split <;> rfl
@[simp] theorem State.latch_dryer (s : State) (c : Cause) : (s.latch c).dryer = s.dryer := by unfold State.latch; split <;> rfl
@[simp] theorem State.latch_readings (s : State) (c : Cause) : (s.latch c).readings = s.readings := by unfold State.latch; split <;> rfl
@[simp] theorem State.latch_cuts (s : State) (c : Cause) : (s.latch c).cuts = s.cuts := by unfold State.latch; split <;> rfl
@[simp] theorem State.latch_breaks (s : State) (c : Cause) : (s.latch c).breaks = s.breaks := by unfold State.latch; split <;> rfl
@[simp] theorem State.latch_port (s : State) (c : Cause) : (s.latch c).port = s.port := by unfold State.latch; split <;> rfl
@[simp] theorem State.latch_resetAccepted (s : State) (c : Cause) : (s.latch c).resetAccepted = s.resetAccepted := by unfold State.latch; split <;> rfl
@[simp] theorem State.latch_heartbeat (s : State) (c : Cause) : (s.latch c).heartbeat = s.heartbeat := by unfold State.latch; split <;> rfl
@[simp] theorem State.latch_store (s : State) (c : Cause) : (s.latch c).store = s.store := by unfold State.latch; split <;> rfl
@[simp] theorem State.latch_commit (s : State) (c : Cause) : (s.latch c).commit = s.commit := by unfold State.latch; split <;> rfl
@[simp] theorem State.latch_lines (s : State) (c : Cause) : (s.latch c).lines = s.lines := by unfold State.latch; split <;> rfl
@[simp] theorem State.latch_freeIndex (s : State) (c : Cause) : (s.latch c).freeIndex = s.freeIndex := by unfold State.latch; split <;> rfl
@[simp] theorem State.latch_owed (s : State) (c : Cause) : (s.latch c).owed = s.owed := by unfold State.latch; split <;> rfl
@[simp] theorem State.latch_pending (s : State) (c : Cause) : (s.latch c).pending = s.pending := by unfold State.latch; split <;> rfl

/-! ## tellHorn -/

@[simp] theorem State.tellHorn_powered (s : State) : (s.tellHorn).powered = s.powered := rfl
@[simp] theorem State.tellHorn_straps (s : State) : (s.tellHorn).straps = s.straps := rfl
@[simp] theorem State.tellHorn_profiles (s : State) : (s.tellHorn).profiles = s.profiles := rfl
@[simp] theorem State.tellHorn_marks (s : State) : (s.tellHorn).marks = s.marks := rfl
@[simp] theorem State.tellHorn_cal (s : State) : (s.tellHorn).cal = s.cal := rfl
@[simp] theorem State.tellHorn_load (s : State) : (s.tellHorn).load = s.load := rfl
@[simp] theorem State.tellHorn_lanes (s : State) : (s.tellHorn).lanes = s.lanes := rfl
@[simp] theorem State.tellHorn_arbiter (s : State) : (s.tellHorn).arbiter = s.arbiter := rfl
@[simp] theorem State.tellHorn_exhaust (s : State) : (s.tellHorn).exhaust = s.exhaust := rfl
@[simp] theorem State.tellHorn_dryer (s : State) : (s.tellHorn).dryer = s.dryer := rfl
@[simp] theorem State.tellHorn_readings (s : State) : (s.tellHorn).readings = s.readings := rfl
@[simp] theorem State.tellHorn_cuts (s : State) : (s.tellHorn).cuts = s.cuts := rfl
@[simp] theorem State.tellHorn_breaks (s : State) : (s.tellHorn).breaks = s.breaks := rfl
@[simp] theorem State.tellHorn_port (s : State) : (s.tellHorn).port = s.port := rfl
@[simp] theorem State.tellHorn_resetAccepted (s : State) : (s.tellHorn).resetAccepted = s.resetAccepted := rfl
@[simp] theorem State.tellHorn_attention (s : State) : (s.tellHorn).attention = s.attention := rfl
@[simp] theorem State.tellHorn_heartbeat (s : State) : (s.tellHorn).heartbeat = s.heartbeat := rfl
@[simp] theorem State.tellHorn_store (s : State) : (s.tellHorn).store = s.store := rfl
@[simp] theorem State.tellHorn_commit (s : State) : (s.tellHorn).commit = s.commit := rfl
@[simp] theorem State.tellHorn_lines (s : State) : (s.tellHorn).lines = s.lines := rfl
@[simp] theorem State.tellHorn_freeIndex (s : State) : (s.tellHorn).freeIndex = s.freeIndex := rfl
@[simp] theorem State.tellHorn_owed (s : State) : (s.tellHorn).owed = s.owed := rfl
@[simp] theorem State.tellHorn_pending (s : State) : (s.tellHorn).pending = s.pending := rfl

/-! ## startCadence -/

@[simp] theorem State.startCadence_powered (s : State) : (s.startCadence).powered = s.powered := by unfold State.startCadence; split <;> rfl
@[simp] theorem State.startCadence_straps (s : State) : (s.startCadence).straps = s.straps := by unfold State.startCadence; split <;> rfl
@[simp] theorem State.startCadence_profiles (s : State) : (s.startCadence).profiles = s.profiles := by unfold State.startCadence; split <;> rfl
@[simp] theorem State.startCadence_marks (s : State) : (s.startCadence).marks = s.marks := by unfold State.startCadence; split <;> rfl
@[simp] theorem State.startCadence_cal (s : State) : (s.startCadence).cal = s.cal := by unfold State.startCadence; split <;> rfl
@[simp] theorem State.startCadence_load (s : State) : (s.startCadence).load = s.load := by unfold State.startCadence; split <;> rfl
@[simp] theorem State.startCadence_lanes (s : State) : (s.startCadence).lanes = s.lanes := by unfold State.startCadence; split <;> rfl
@[simp] theorem State.startCadence_arbiter (s : State) : (s.startCadence).arbiter = s.arbiter := by unfold State.startCadence; split <;> rfl
@[simp] theorem State.startCadence_exhaust (s : State) : (s.startCadence).exhaust = s.exhaust := by unfold State.startCadence; split <;> rfl
@[simp] theorem State.startCadence_dryer (s : State) : (s.startCadence).dryer = s.dryer := by unfold State.startCadence; split <;> rfl
@[simp] theorem State.startCadence_readings (s : State) : (s.startCadence).readings = s.readings := by unfold State.startCadence; split <;> rfl
@[simp] theorem State.startCadence_cuts (s : State) : (s.startCadence).cuts = s.cuts := by unfold State.startCadence; split <;> rfl
@[simp] theorem State.startCadence_breaks (s : State) : (s.startCadence).breaks = s.breaks := by unfold State.startCadence; split <;> rfl
@[simp] theorem State.startCadence_port (s : State) : (s.startCadence).port = s.port := by unfold State.startCadence; split <;> rfl
@[simp] theorem State.startCadence_resetAccepted (s : State) : (s.startCadence).resetAccepted = s.resetAccepted := by unfold State.startCadence; split <;> rfl
@[simp] theorem State.startCadence_attention (s : State) : (s.startCadence).attention = s.attention := by unfold State.startCadence; split <;> rfl
@[simp] theorem State.startCadence_heartbeat (s : State) : (s.startCadence).heartbeat = s.heartbeat := by unfold State.startCadence; split <;> rfl
@[simp] theorem State.startCadence_store (s : State) : (s.startCadence).store = s.store := by unfold State.startCadence; split <;> rfl
@[simp] theorem State.startCadence_commit (s : State) : (s.startCadence).commit = s.commit := by unfold State.startCadence; split <;> rfl
@[simp] theorem State.startCadence_lines (s : State) : (s.startCadence).lines = s.lines := by unfold State.startCadence; split <;> rfl
@[simp] theorem State.startCadence_freeIndex (s : State) : (s.startCadence).freeIndex = s.freeIndex := by unfold State.startCadence; split <;> rfl
@[simp] theorem State.startCadence_owed (s : State) : (s.startCadence).owed = s.owed := by unfold State.startCadence; split <;> rfl
@[simp] theorem State.startCadence_pending (s : State) : (s.startCadence).pending = s.pending := by unfold State.startCadence; split <;> rfl

/-! ## removeTarget -/

@[simp] theorem State.removeTarget_powered (s : State) (n : LaneId) : (s.removeTarget n).powered = s.powered := rfl
@[simp] theorem State.removeTarget_straps (s : State) (n : LaneId) : (s.removeTarget n).straps = s.straps := rfl
@[simp] theorem State.removeTarget_profiles (s : State) (n : LaneId) : (s.removeTarget n).profiles = s.profiles := rfl
@[simp] theorem State.removeTarget_marks (s : State) (n : LaneId) : (s.removeTarget n).marks = s.marks := rfl
@[simp] theorem State.removeTarget_cal (s : State) (n : LaneId) : (s.removeTarget n).cal = s.cal := rfl
@[simp] theorem State.removeTarget_load (s : State) (n : LaneId) : (s.removeTarget n).load = s.load := rfl
@[simp] theorem State.removeTarget_exhaust (s : State) (n : LaneId) : (s.removeTarget n).exhaust = s.exhaust := rfl
@[simp] theorem State.removeTarget_dryer (s : State) (n : LaneId) : (s.removeTarget n).dryer = s.dryer := rfl
@[simp] theorem State.removeTarget_readings (s : State) (n : LaneId) : (s.removeTarget n).readings = s.readings := rfl
@[simp] theorem State.removeTarget_cuts (s : State) (n : LaneId) : (s.removeTarget n).cuts = s.cuts := rfl
@[simp] theorem State.removeTarget_breaks (s : State) (n : LaneId) : (s.removeTarget n).breaks = s.breaks := rfl
@[simp] theorem State.removeTarget_horn (s : State) (n : LaneId) : (s.removeTarget n).horn = s.horn := rfl
@[simp] theorem State.removeTarget_port (s : State) (n : LaneId) : (s.removeTarget n).port = s.port := rfl
@[simp] theorem State.removeTarget_resetAccepted (s : State) (n : LaneId) : (s.removeTarget n).resetAccepted = s.resetAccepted := rfl
@[simp] theorem State.removeTarget_attention (s : State) (n : LaneId) : (s.removeTarget n).attention = s.attention := rfl
@[simp] theorem State.removeTarget_heartbeat (s : State) (n : LaneId) : (s.removeTarget n).heartbeat = s.heartbeat := rfl
@[simp] theorem State.removeTarget_store (s : State) (n : LaneId) : (s.removeTarget n).store = s.store := rfl
@[simp] theorem State.removeTarget_commit (s : State) (n : LaneId) : (s.removeTarget n).commit = s.commit := rfl
@[simp] theorem State.removeTarget_lines (s : State) (n : LaneId) : (s.removeTarget n).lines = s.lines := rfl
@[simp] theorem State.removeTarget_freeIndex (s : State) (n : LaneId) : (s.removeTarget n).freeIndex = s.freeIndex := rfl
@[simp] theorem State.removeTarget_owed (s : State) (n : LaneId) : (s.removeTarget n).owed = s.owed := rfl
@[simp] theorem State.removeTarget_pending (s : State) (n : LaneId) : (s.removeTarget n).pending = s.pending := rfl

/-! ## decrease -/

@[simp] theorem State.decrease_powered (s : State) (n : LaneId) (g : Nat) : (s.decrease n g).powered = s.powered := rfl
@[simp] theorem State.decrease_straps (s : State) (n : LaneId) (g : Nat) : (s.decrease n g).straps = s.straps := rfl
@[simp] theorem State.decrease_profiles (s : State) (n : LaneId) (g : Nat) : (s.decrease n g).profiles = s.profiles := rfl
@[simp] theorem State.decrease_marks (s : State) (n : LaneId) (g : Nat) : (s.decrease n g).marks = s.marks := rfl
@[simp] theorem State.decrease_cal (s : State) (n : LaneId) (g : Nat) : (s.decrease n g).cal = s.cal := rfl
@[simp] theorem State.decrease_load (s : State) (n : LaneId) (g : Nat) : (s.decrease n g).load = s.load := rfl
@[simp] theorem State.decrease_arbiter (s : State) (n : LaneId) (g : Nat) : (s.decrease n g).arbiter = s.arbiter := rfl
@[simp] theorem State.decrease_exhaust (s : State) (n : LaneId) (g : Nat) : (s.decrease n g).exhaust = s.exhaust := rfl
@[simp] theorem State.decrease_dryer (s : State) (n : LaneId) (g : Nat) : (s.decrease n g).dryer = s.dryer := rfl
@[simp] theorem State.decrease_readings (s : State) (n : LaneId) (g : Nat) : (s.decrease n g).readings = s.readings := rfl
@[simp] theorem State.decrease_cuts (s : State) (n : LaneId) (g : Nat) : (s.decrease n g).cuts = s.cuts := rfl
@[simp] theorem State.decrease_breaks (s : State) (n : LaneId) (g : Nat) : (s.decrease n g).breaks = s.breaks := rfl
@[simp] theorem State.decrease_horn (s : State) (n : LaneId) (g : Nat) : (s.decrease n g).horn = s.horn := rfl
@[simp] theorem State.decrease_port (s : State) (n : LaneId) (g : Nat) : (s.decrease n g).port = s.port := rfl
@[simp] theorem State.decrease_resetAccepted (s : State) (n : LaneId) (g : Nat) : (s.decrease n g).resetAccepted = s.resetAccepted := rfl
@[simp] theorem State.decrease_attention (s : State) (n : LaneId) (g : Nat) : (s.decrease n g).attention = s.attention := rfl
@[simp] theorem State.decrease_heartbeat (s : State) (n : LaneId) (g : Nat) : (s.decrease n g).heartbeat = s.heartbeat := rfl
@[simp] theorem State.decrease_store (s : State) (n : LaneId) (g : Nat) : (s.decrease n g).store = s.store := rfl
@[simp] theorem State.decrease_commit (s : State) (n : LaneId) (g : Nat) : (s.decrease n g).commit = s.commit := rfl
@[simp] theorem State.decrease_lines (s : State) (n : LaneId) (g : Nat) : (s.decrease n g).lines = s.lines := rfl
@[simp] theorem State.decrease_freeIndex (s : State) (n : LaneId) (g : Nat) : (s.decrease n g).freeIndex = s.freeIndex := rfl
@[simp] theorem State.decrease_owed (s : State) (n : LaneId) (g : Nat) : (s.decrease n g).owed = s.owed := rfl
@[simp] theorem State.decrease_pending (s : State) (n : LaneId) (g : Nat) : (s.decrease n g).pending = s.pending := rfl

/-! ## raise -/

@[simp] theorem State.raise_powered (s : State) (n : LaneId) (g : Nat) : (s.raise n g).powered = s.powered := rfl
@[simp] theorem State.raise_straps (s : State) (n : LaneId) (g : Nat) : (s.raise n g).straps = s.straps := rfl
@[simp] theorem State.raise_profiles (s : State) (n : LaneId) (g : Nat) : (s.raise n g).profiles = s.profiles := rfl
@[simp] theorem State.raise_marks (s : State) (n : LaneId) (g : Nat) : (s.raise n g).marks = s.marks := rfl
@[simp] theorem State.raise_cal (s : State) (n : LaneId) (g : Nat) : (s.raise n g).cal = s.cal := rfl
@[simp] theorem State.raise_load (s : State) (n : LaneId) (g : Nat) : (s.raise n g).load = s.load := rfl
@[simp] theorem State.raise_exhaust (s : State) (n : LaneId) (g : Nat) : (s.raise n g).exhaust = s.exhaust := rfl
@[simp] theorem State.raise_dryer (s : State) (n : LaneId) (g : Nat) : (s.raise n g).dryer = s.dryer := rfl
@[simp] theorem State.raise_readings (s : State) (n : LaneId) (g : Nat) : (s.raise n g).readings = s.readings := rfl
@[simp] theorem State.raise_cuts (s : State) (n : LaneId) (g : Nat) : (s.raise n g).cuts = s.cuts := rfl
@[simp] theorem State.raise_breaks (s : State) (n : LaneId) (g : Nat) : (s.raise n g).breaks = s.breaks := rfl
@[simp] theorem State.raise_horn (s : State) (n : LaneId) (g : Nat) : (s.raise n g).horn = s.horn := rfl
@[simp] theorem State.raise_port (s : State) (n : LaneId) (g : Nat) : (s.raise n g).port = s.port := rfl
@[simp] theorem State.raise_resetAccepted (s : State) (n : LaneId) (g : Nat) : (s.raise n g).resetAccepted = s.resetAccepted := rfl
@[simp] theorem State.raise_attention (s : State) (n : LaneId) (g : Nat) : (s.raise n g).attention = s.attention := rfl
@[simp] theorem State.raise_heartbeat (s : State) (n : LaneId) (g : Nat) : (s.raise n g).heartbeat = s.heartbeat := rfl
@[simp] theorem State.raise_store (s : State) (n : LaneId) (g : Nat) : (s.raise n g).store = s.store := rfl
@[simp] theorem State.raise_commit (s : State) (n : LaneId) (g : Nat) : (s.raise n g).commit = s.commit := rfl
@[simp] theorem State.raise_lines (s : State) (n : LaneId) (g : Nat) : (s.raise n g).lines = s.lines := rfl
@[simp] theorem State.raise_freeIndex (s : State) (n : LaneId) (g : Nat) : (s.raise n g).freeIndex = s.freeIndex := rfl
@[simp] theorem State.raise_owed (s : State) (n : LaneId) (g : Nat) : (s.raise n g).owed = s.owed := rfl
@[simp] theorem State.raise_pending (s : State) (n : LaneId) (g : Nat) : (s.raise n g).pending = s.pending := rfl

/-! ## stopLane -/

@[simp] theorem State.stopLane_powered (s : State) (n : LaneId) (st : LaneState) (ms : Nat) : (s.stopLane n st ms).powered = s.powered := rfl
@[simp] theorem State.stopLane_straps (s : State) (n : LaneId) (st : LaneState) (ms : Nat) : (s.stopLane n st ms).straps = s.straps := rfl
@[simp] theorem State.stopLane_profiles (s : State) (n : LaneId) (st : LaneState) (ms : Nat) : (s.stopLane n st ms).profiles = s.profiles := rfl
@[simp] theorem State.stopLane_marks (s : State) (n : LaneId) (st : LaneState) (ms : Nat) : (s.stopLane n st ms).marks = s.marks := rfl
@[simp] theorem State.stopLane_cal (s : State) (n : LaneId) (st : LaneState) (ms : Nat) : (s.stopLane n st ms).cal = s.cal := rfl
@[simp] theorem State.stopLane_load (s : State) (n : LaneId) (st : LaneState) (ms : Nat) : (s.stopLane n st ms).load = s.load := rfl
@[simp] theorem State.stopLane_exhaust (s : State) (n : LaneId) (st : LaneState) (ms : Nat) : (s.stopLane n st ms).exhaust = s.exhaust := rfl
@[simp] theorem State.stopLane_dryer (s : State) (n : LaneId) (st : LaneState) (ms : Nat) : (s.stopLane n st ms).dryer = s.dryer := rfl
@[simp] theorem State.stopLane_readings (s : State) (n : LaneId) (st : LaneState) (ms : Nat) : (s.stopLane n st ms).readings = s.readings := rfl
@[simp] theorem State.stopLane_cuts (s : State) (n : LaneId) (st : LaneState) (ms : Nat) : (s.stopLane n st ms).cuts = s.cuts := rfl
@[simp] theorem State.stopLane_breaks (s : State) (n : LaneId) (st : LaneState) (ms : Nat) : (s.stopLane n st ms).breaks = s.breaks := rfl
@[simp] theorem State.stopLane_horn (s : State) (n : LaneId) (st : LaneState) (ms : Nat) : (s.stopLane n st ms).horn = s.horn := rfl
@[simp] theorem State.stopLane_port (s : State) (n : LaneId) (st : LaneState) (ms : Nat) : (s.stopLane n st ms).port = s.port := rfl
@[simp] theorem State.stopLane_resetAccepted (s : State) (n : LaneId) (st : LaneState) (ms : Nat) : (s.stopLane n st ms).resetAccepted = s.resetAccepted := rfl
@[simp] theorem State.stopLane_attention (s : State) (n : LaneId) (st : LaneState) (ms : Nat) : (s.stopLane n st ms).attention = s.attention := rfl
@[simp] theorem State.stopLane_heartbeat (s : State) (n : LaneId) (st : LaneState) (ms : Nat) : (s.stopLane n st ms).heartbeat = s.heartbeat := rfl
@[simp] theorem State.stopLane_store (s : State) (n : LaneId) (st : LaneState) (ms : Nat) : (s.stopLane n st ms).store = s.store := rfl
@[simp] theorem State.stopLane_commit (s : State) (n : LaneId) (st : LaneState) (ms : Nat) : (s.stopLane n st ms).commit = s.commit := rfl
@[simp] theorem State.stopLane_lines (s : State) (n : LaneId) (st : LaneState) (ms : Nat) : (s.stopLane n st ms).lines = s.lines := rfl
@[simp] theorem State.stopLane_freeIndex (s : State) (n : LaneId) (st : LaneState) (ms : Nat) : (s.stopLane n st ms).freeIndex = s.freeIndex := rfl
@[simp] theorem State.stopLane_owed (s : State) (n : LaneId) (st : LaneState) (ms : Nat) : (s.stopLane n st ms).owed = s.owed := rfl
@[simp] theorem State.stopLane_pending (s : State) (n : LaneId) (st : LaneState) (ms : Nat) : (s.stopLane n st ms).pending = s.pending := rfl

/-! ## enterDryer -/

@[simp] theorem State.enterDryer_powered (s : State) (d : DryerState) : (s.enterDryer d).powered = s.powered := rfl
@[simp] theorem State.enterDryer_straps (s : State) (d : DryerState) : (s.enterDryer d).straps = s.straps := rfl
@[simp] theorem State.enterDryer_profiles (s : State) (d : DryerState) : (s.enterDryer d).profiles = s.profiles := rfl
@[simp] theorem State.enterDryer_marks (s : State) (d : DryerState) : (s.enterDryer d).marks = s.marks := rfl
@[simp] theorem State.enterDryer_cal (s : State) (d : DryerState) : (s.enterDryer d).cal = s.cal := rfl
@[simp] theorem State.enterDryer_load (s : State) (d : DryerState) : (s.enterDryer d).load = s.load := rfl
@[simp] theorem State.enterDryer_lanes (s : State) (d : DryerState) : (s.enterDryer d).lanes = s.lanes := rfl
@[simp] theorem State.enterDryer_arbiter (s : State) (d : DryerState) : (s.enterDryer d).arbiter = s.arbiter := rfl
@[simp] theorem State.enterDryer_readings (s : State) (d : DryerState) : (s.enterDryer d).readings = s.readings := rfl
@[simp] theorem State.enterDryer_cuts (s : State) (d : DryerState) : (s.enterDryer d).cuts = s.cuts := rfl
@[simp] theorem State.enterDryer_breaks (s : State) (d : DryerState) : (s.enterDryer d).breaks = s.breaks := rfl
@[simp] theorem State.enterDryer_horn (s : State) (d : DryerState) : (s.enterDryer d).horn = s.horn := rfl
@[simp] theorem State.enterDryer_port (s : State) (d : DryerState) : (s.enterDryer d).port = s.port := rfl
@[simp] theorem State.enterDryer_resetAccepted (s : State) (d : DryerState) : (s.enterDryer d).resetAccepted = s.resetAccepted := rfl
@[simp] theorem State.enterDryer_attention (s : State) (d : DryerState) : (s.enterDryer d).attention = s.attention := rfl
@[simp] theorem State.enterDryer_heartbeat (s : State) (d : DryerState) : (s.enterDryer d).heartbeat = s.heartbeat := rfl
@[simp] theorem State.enterDryer_store (s : State) (d : DryerState) : (s.enterDryer d).store = s.store := rfl
@[simp] theorem State.enterDryer_commit (s : State) (d : DryerState) : (s.enterDryer d).commit = s.commit := rfl
@[simp] theorem State.enterDryer_lines (s : State) (d : DryerState) : (s.enterDryer d).lines = s.lines := rfl
@[simp] theorem State.enterDryer_freeIndex (s : State) (d : DryerState) : (s.enterDryer d).freeIndex = s.freeIndex := rfl
@[simp] theorem State.enterDryer_owed (s : State) (d : DryerState) : (s.enterDryer d).owed = s.owed := rfl
@[simp] theorem State.enterDryer_pending (s : State) (d : DryerState) : (s.enterDryer d).pending = s.pending := rfl

/-! ## reform -/

@[simp] theorem State.reform_powered (s : State) : (s.reform).powered = s.powered := rfl
@[simp] theorem State.reform_straps (s : State) : (s.reform).straps = s.straps := rfl
@[simp] theorem State.reform_profiles (s : State) : (s.reform).profiles = s.profiles := rfl
@[simp] theorem State.reform_marks (s : State) : (s.reform).marks = s.marks := rfl
@[simp] theorem State.reform_cal (s : State) : (s.reform).cal = s.cal := rfl
@[simp] theorem State.reform_lanes (s : State) : (s.reform).lanes = s.lanes := rfl
@[simp] theorem State.reform_arbiter (s : State) : (s.reform).arbiter = s.arbiter := rfl
@[simp] theorem State.reform_exhaust (s : State) : (s.reform).exhaust = s.exhaust := rfl
@[simp] theorem State.reform_dryer (s : State) : (s.reform).dryer = s.dryer := rfl
@[simp] theorem State.reform_readings (s : State) : (s.reform).readings = s.readings := rfl
@[simp] theorem State.reform_cuts (s : State) : (s.reform).cuts = s.cuts := rfl
@[simp] theorem State.reform_breaks (s : State) : (s.reform).breaks = s.breaks := rfl
@[simp] theorem State.reform_horn (s : State) : (s.reform).horn = s.horn := rfl
@[simp] theorem State.reform_port (s : State) : (s.reform).port = s.port := rfl
@[simp] theorem State.reform_resetAccepted (s : State) : (s.reform).resetAccepted = s.resetAccepted := rfl
@[simp] theorem State.reform_attention (s : State) : (s.reform).attention = s.attention := rfl
@[simp] theorem State.reform_heartbeat (s : State) : (s.reform).heartbeat = s.heartbeat := rfl
@[simp] theorem State.reform_store (s : State) : (s.reform).store = s.store := rfl
@[simp] theorem State.reform_commit (s : State) : (s.reform).commit = s.commit := rfl
@[simp] theorem State.reform_freeIndex (s : State) : (s.reform).freeIndex = s.freeIndex := rfl
@[simp] theorem State.reform_owed (s : State) : (s.reform).owed = s.owed := rfl
@[simp] theorem State.reform_pending (s : State) : (s.reform).pending = s.pending := rfl

/-! ## reformLimit -/

@[simp] theorem State.reformLimit_powered (s : State) : (s.reformLimit).powered = s.powered := rfl
@[simp] theorem State.reformLimit_straps (s : State) : (s.reformLimit).straps = s.straps := rfl
@[simp] theorem State.reformLimit_profiles (s : State) : (s.reformLimit).profiles = s.profiles := rfl
@[simp] theorem State.reformLimit_marks (s : State) : (s.reformLimit).marks = s.marks := rfl
@[simp] theorem State.reformLimit_cal (s : State) : (s.reformLimit).cal = s.cal := rfl
@[simp] theorem State.reformLimit_lanes (s : State) : (s.reformLimit).lanes = s.lanes := rfl
@[simp] theorem State.reformLimit_arbiter (s : State) : (s.reformLimit).arbiter = s.arbiter := rfl
@[simp] theorem State.reformLimit_exhaust (s : State) : (s.reformLimit).exhaust = s.exhaust := rfl
@[simp] theorem State.reformLimit_dryer (s : State) : (s.reformLimit).dryer = s.dryer := rfl
@[simp] theorem State.reformLimit_readings (s : State) : (s.reformLimit).readings = s.readings := rfl
@[simp] theorem State.reformLimit_cuts (s : State) : (s.reformLimit).cuts = s.cuts := rfl
@[simp] theorem State.reformLimit_breaks (s : State) : (s.reformLimit).breaks = s.breaks := rfl
@[simp] theorem State.reformLimit_horn (s : State) : (s.reformLimit).horn = s.horn := rfl
@[simp] theorem State.reformLimit_port (s : State) : (s.reformLimit).port = s.port := rfl
@[simp] theorem State.reformLimit_resetAccepted (s : State) : (s.reformLimit).resetAccepted = s.resetAccepted := rfl
@[simp] theorem State.reformLimit_attention (s : State) : (s.reformLimit).attention = s.attention := rfl
@[simp] theorem State.reformLimit_heartbeat (s : State) : (s.reformLimit).heartbeat = s.heartbeat := rfl
@[simp] theorem State.reformLimit_store (s : State) : (s.reformLimit).store = s.store := rfl
@[simp] theorem State.reformLimit_commit (s : State) : (s.reformLimit).commit = s.commit := rfl
@[simp] theorem State.reformLimit_lines (s : State) : (s.reformLimit).lines = s.lines := rfl
@[simp] theorem State.reformLimit_freeIndex (s : State) : (s.reformLimit).freeIndex = s.freeIndex := rfl
@[simp] theorem State.reformLimit_owed (s : State) : (s.reformLimit).owed = s.owed := rfl
@[simp] theorem State.reformLimit_pending (s : State) : (s.reformLimit).pending = s.pending := rfl

/-! ## holdEstimate -/

@[simp] theorem State.holdEstimate_powered (s : State) : (s.holdEstimate).powered = s.powered := rfl
@[simp] theorem State.holdEstimate_straps (s : State) : (s.holdEstimate).straps = s.straps := rfl
@[simp] theorem State.holdEstimate_profiles (s : State) : (s.holdEstimate).profiles = s.profiles := rfl
@[simp] theorem State.holdEstimate_marks (s : State) : (s.holdEstimate).marks = s.marks := rfl
@[simp] theorem State.holdEstimate_cal (s : State) : (s.holdEstimate).cal = s.cal := rfl
@[simp] theorem State.holdEstimate_lanes (s : State) : (s.holdEstimate).lanes = s.lanes := rfl
@[simp] theorem State.holdEstimate_arbiter (s : State) : (s.holdEstimate).arbiter = s.arbiter := rfl
@[simp] theorem State.holdEstimate_exhaust (s : State) : (s.holdEstimate).exhaust = s.exhaust := rfl
@[simp] theorem State.holdEstimate_dryer (s : State) : (s.holdEstimate).dryer = s.dryer := rfl
@[simp] theorem State.holdEstimate_readings (s : State) : (s.holdEstimate).readings = s.readings := rfl
@[simp] theorem State.holdEstimate_cuts (s : State) : (s.holdEstimate).cuts = s.cuts := rfl
@[simp] theorem State.holdEstimate_breaks (s : State) : (s.holdEstimate).breaks = s.breaks := rfl
@[simp] theorem State.holdEstimate_horn (s : State) : (s.holdEstimate).horn = s.horn := rfl
@[simp] theorem State.holdEstimate_port (s : State) : (s.holdEstimate).port = s.port := rfl
@[simp] theorem State.holdEstimate_resetAccepted (s : State) : (s.holdEstimate).resetAccepted = s.resetAccepted := rfl
@[simp] theorem State.holdEstimate_attention (s : State) : (s.holdEstimate).attention = s.attention := rfl
@[simp] theorem State.holdEstimate_heartbeat (s : State) : (s.holdEstimate).heartbeat = s.heartbeat := rfl
@[simp] theorem State.holdEstimate_store (s : State) : (s.holdEstimate).store = s.store := rfl
@[simp] theorem State.holdEstimate_commit (s : State) : (s.holdEstimate).commit = s.commit := rfl
@[simp] theorem State.holdEstimate_lines (s : State) : (s.holdEstimate).lines = s.lines := rfl
@[simp] theorem State.holdEstimate_freeIndex (s : State) : (s.holdEstimate).freeIndex = s.freeIndex := rfl
@[simp] theorem State.holdEstimate_owed (s : State) : (s.holdEstimate).owed = s.owed := rfl
@[simp] theorem State.holdEstimate_pending (s : State) : (s.holdEstimate).pending = s.pending := rfl

/-! ## setIdle -/

@[simp] theorem State.setIdle_powered (s : State) (ms : Nat) : (s.setIdle ms).powered = s.powered := rfl
@[simp] theorem State.setIdle_straps (s : State) (ms : Nat) : (s.setIdle ms).straps = s.straps := rfl
@[simp] theorem State.setIdle_profiles (s : State) (ms : Nat) : (s.setIdle ms).profiles = s.profiles := rfl
@[simp] theorem State.setIdle_marks (s : State) (ms : Nat) : (s.setIdle ms).marks = s.marks := rfl
@[simp] theorem State.setIdle_cal (s : State) (ms : Nat) : (s.setIdle ms).cal = s.cal := rfl
@[simp] theorem State.setIdle_load (s : State) (ms : Nat) : (s.setIdle ms).load = s.load := rfl
@[simp] theorem State.setIdle_lanes (s : State) (ms : Nat) : (s.setIdle ms).lanes = s.lanes := rfl
@[simp] theorem State.setIdle_arbiter (s : State) (ms : Nat) : (s.setIdle ms).arbiter = s.arbiter := rfl
@[simp] theorem State.setIdle_exhaust (s : State) (ms : Nat) : (s.setIdle ms).exhaust = s.exhaust := rfl
@[simp] theorem State.setIdle_dryer (s : State) (ms : Nat) : (s.setIdle ms).dryer = s.dryer := rfl
@[simp] theorem State.setIdle_readings (s : State) (ms : Nat) : (s.setIdle ms).readings = s.readings := rfl
@[simp] theorem State.setIdle_cuts (s : State) (ms : Nat) : (s.setIdle ms).cuts = s.cuts := rfl
@[simp] theorem State.setIdle_breaks (s : State) (ms : Nat) : (s.setIdle ms).breaks = s.breaks := rfl
@[simp] theorem State.setIdle_horn (s : State) (ms : Nat) : (s.setIdle ms).horn = s.horn := rfl
@[simp] theorem State.setIdle_resetAccepted (s : State) (ms : Nat) : (s.setIdle ms).resetAccepted = s.resetAccepted := rfl
@[simp] theorem State.setIdle_attention (s : State) (ms : Nat) : (s.setIdle ms).attention = s.attention := rfl
@[simp] theorem State.setIdle_heartbeat (s : State) (ms : Nat) : (s.setIdle ms).heartbeat = s.heartbeat := rfl
@[simp] theorem State.setIdle_store (s : State) (ms : Nat) : (s.setIdle ms).store = s.store := rfl
@[simp] theorem State.setIdle_commit (s : State) (ms : Nat) : (s.setIdle ms).commit = s.commit := rfl
@[simp] theorem State.setIdle_lines (s : State) (ms : Nat) : (s.setIdle ms).lines = s.lines := rfl
@[simp] theorem State.setIdle_freeIndex (s : State) (ms : Nat) : (s.setIdle ms).freeIndex = s.freeIndex := rfl
@[simp] theorem State.setIdle_owed (s : State) (ms : Nat) : (s.setIdle ms).owed = s.owed := rfl
@[simp] theorem State.setIdle_pending (s : State) (ms : Nat) : (s.setIdle ms).pending = s.pending := rfl

/-! ## discard -/

@[simp] theorem State.discard_powered (s : State) (k : LinkError) : (s.discard k).powered = s.powered := rfl
@[simp] theorem State.discard_straps (s : State) (k : LinkError) : (s.discard k).straps = s.straps := rfl
@[simp] theorem State.discard_profiles (s : State) (k : LinkError) : (s.discard k).profiles = s.profiles := rfl
@[simp] theorem State.discard_marks (s : State) (k : LinkError) : (s.discard k).marks = s.marks := rfl
@[simp] theorem State.discard_cal (s : State) (k : LinkError) : (s.discard k).cal = s.cal := rfl
@[simp] theorem State.discard_load (s : State) (k : LinkError) : (s.discard k).load = s.load := rfl
@[simp] theorem State.discard_lanes (s : State) (k : LinkError) : (s.discard k).lanes = s.lanes := rfl
@[simp] theorem State.discard_arbiter (s : State) (k : LinkError) : (s.discard k).arbiter = s.arbiter := rfl
@[simp] theorem State.discard_exhaust (s : State) (k : LinkError) : (s.discard k).exhaust = s.exhaust := rfl
@[simp] theorem State.discard_dryer (s : State) (k : LinkError) : (s.discard k).dryer = s.dryer := rfl
@[simp] theorem State.discard_readings (s : State) (k : LinkError) : (s.discard k).readings = s.readings := rfl
@[simp] theorem State.discard_cuts (s : State) (k : LinkError) : (s.discard k).cuts = s.cuts := rfl
@[simp] theorem State.discard_breaks (s : State) (k : LinkError) : (s.discard k).breaks = s.breaks := rfl
@[simp] theorem State.discard_horn (s : State) (k : LinkError) : (s.discard k).horn = s.horn := rfl
@[simp] theorem State.discard_resetAccepted (s : State) (k : LinkError) : (s.discard k).resetAccepted = s.resetAccepted := rfl
@[simp] theorem State.discard_attention (s : State) (k : LinkError) : (s.discard k).attention = s.attention := rfl
@[simp] theorem State.discard_heartbeat (s : State) (k : LinkError) : (s.discard k).heartbeat = s.heartbeat := rfl
@[simp] theorem State.discard_store (s : State) (k : LinkError) : (s.discard k).store = s.store := rfl
@[simp] theorem State.discard_commit (s : State) (k : LinkError) : (s.discard k).commit = s.commit := rfl
@[simp] theorem State.discard_lines (s : State) (k : LinkError) : (s.discard k).lines = s.lines := rfl
@[simp] theorem State.discard_freeIndex (s : State) (k : LinkError) : (s.discard k).freeIndex = s.freeIndex := rfl
@[simp] theorem State.discard_owed (s : State) (k : LinkError) : (s.discard k).owed = s.owed := rfl
@[simp] theorem State.discard_pending (s : State) (k : LinkError) : (s.discard k).pending = s.pending := rfl

/-! ## hunt -/

@[simp] theorem State.hunt_powered (s : State) : (s.hunt).powered = s.powered := rfl
@[simp] theorem State.hunt_straps (s : State) : (s.hunt).straps = s.straps := rfl
@[simp] theorem State.hunt_profiles (s : State) : (s.hunt).profiles = s.profiles := rfl
@[simp] theorem State.hunt_marks (s : State) : (s.hunt).marks = s.marks := rfl
@[simp] theorem State.hunt_cal (s : State) : (s.hunt).cal = s.cal := rfl
@[simp] theorem State.hunt_load (s : State) : (s.hunt).load = s.load := rfl
@[simp] theorem State.hunt_lanes (s : State) : (s.hunt).lanes = s.lanes := rfl
@[simp] theorem State.hunt_arbiter (s : State) : (s.hunt).arbiter = s.arbiter := rfl
@[simp] theorem State.hunt_exhaust (s : State) : (s.hunt).exhaust = s.exhaust := rfl
@[simp] theorem State.hunt_dryer (s : State) : (s.hunt).dryer = s.dryer := rfl
@[simp] theorem State.hunt_readings (s : State) : (s.hunt).readings = s.readings := rfl
@[simp] theorem State.hunt_cuts (s : State) : (s.hunt).cuts = s.cuts := rfl
@[simp] theorem State.hunt_breaks (s : State) : (s.hunt).breaks = s.breaks := rfl
@[simp] theorem State.hunt_horn (s : State) : (s.hunt).horn = s.horn := rfl
@[simp] theorem State.hunt_resetAccepted (s : State) : (s.hunt).resetAccepted = s.resetAccepted := rfl
@[simp] theorem State.hunt_attention (s : State) : (s.hunt).attention = s.attention := rfl
@[simp] theorem State.hunt_heartbeat (s : State) : (s.hunt).heartbeat = s.heartbeat := rfl
@[simp] theorem State.hunt_store (s : State) : (s.hunt).store = s.store := rfl
@[simp] theorem State.hunt_commit (s : State) : (s.hunt).commit = s.commit := rfl
@[simp] theorem State.hunt_lines (s : State) : (s.hunt).lines = s.lines := rfl
@[simp] theorem State.hunt_freeIndex (s : State) : (s.hunt).freeIndex = s.freeIndex := rfl
@[simp] theorem State.hunt_owed (s : State) : (s.hunt).owed = s.owed := rfl
@[simp] theorem State.hunt_pending (s : State) : (s.hunt).pending = s.pending := rfl

/-! ## collide -/

@[simp] theorem State.collide_powered (s : State) : (s.collide).powered = s.powered := rfl
@[simp] theorem State.collide_straps (s : State) : (s.collide).straps = s.straps := rfl
@[simp] theorem State.collide_profiles (s : State) : (s.collide).profiles = s.profiles := rfl
@[simp] theorem State.collide_marks (s : State) : (s.collide).marks = s.marks := rfl
@[simp] theorem State.collide_cal (s : State) : (s.collide).cal = s.cal := rfl
@[simp] theorem State.collide_load (s : State) : (s.collide).load = s.load := rfl
@[simp] theorem State.collide_lanes (s : State) : (s.collide).lanes = s.lanes := rfl
@[simp] theorem State.collide_arbiter (s : State) : (s.collide).arbiter = s.arbiter := rfl
@[simp] theorem State.collide_exhaust (s : State) : (s.collide).exhaust = s.exhaust := rfl
@[simp] theorem State.collide_dryer (s : State) : (s.collide).dryer = s.dryer := rfl
@[simp] theorem State.collide_readings (s : State) : (s.collide).readings = s.readings := rfl
@[simp] theorem State.collide_cuts (s : State) : (s.collide).cuts = s.cuts := rfl
@[simp] theorem State.collide_breaks (s : State) : (s.collide).breaks = s.breaks := rfl
@[simp] theorem State.collide_horn (s : State) : (s.collide).horn = s.horn := rfl
@[simp] theorem State.collide_resetAccepted (s : State) : (s.collide).resetAccepted = s.resetAccepted := rfl
@[simp] theorem State.collide_attention (s : State) : (s.collide).attention = s.attention := rfl
@[simp] theorem State.collide_heartbeat (s : State) : (s.collide).heartbeat = s.heartbeat := rfl
@[simp] theorem State.collide_store (s : State) : (s.collide).store = s.store := rfl
@[simp] theorem State.collide_commit (s : State) : (s.collide).commit = s.commit := rfl
@[simp] theorem State.collide_lines (s : State) : (s.collide).lines = s.lines := rfl
@[simp] theorem State.collide_freeIndex (s : State) : (s.collide).freeIndex = s.freeIndex := rfl
@[simp] theorem State.collide_owed (s : State) : (s.collide).owed = s.owed := rfl
@[simp] theorem State.collide_pending (s : State) : (s.collide).pending = s.pending := rfl

/-! ## prepareAnswer -/

@[simp] theorem State.prepareAnswer_powered (s : State) (code : Byte) (r : Reply) : (s.prepareAnswer code r).powered = s.powered := rfl
@[simp] theorem State.prepareAnswer_straps (s : State) (code : Byte) (r : Reply) : (s.prepareAnswer code r).straps = s.straps := rfl
@[simp] theorem State.prepareAnswer_profiles (s : State) (code : Byte) (r : Reply) : (s.prepareAnswer code r).profiles = s.profiles := rfl
@[simp] theorem State.prepareAnswer_marks (s : State) (code : Byte) (r : Reply) : (s.prepareAnswer code r).marks = s.marks := rfl
@[simp] theorem State.prepareAnswer_cal (s : State) (code : Byte) (r : Reply) : (s.prepareAnswer code r).cal = s.cal := rfl
@[simp] theorem State.prepareAnswer_load (s : State) (code : Byte) (r : Reply) : (s.prepareAnswer code r).load = s.load := rfl
@[simp] theorem State.prepareAnswer_lanes (s : State) (code : Byte) (r : Reply) : (s.prepareAnswer code r).lanes = s.lanes := rfl
@[simp] theorem State.prepareAnswer_arbiter (s : State) (code : Byte) (r : Reply) : (s.prepareAnswer code r).arbiter = s.arbiter := rfl
@[simp] theorem State.prepareAnswer_exhaust (s : State) (code : Byte) (r : Reply) : (s.prepareAnswer code r).exhaust = s.exhaust := rfl
@[simp] theorem State.prepareAnswer_dryer (s : State) (code : Byte) (r : Reply) : (s.prepareAnswer code r).dryer = s.dryer := rfl
@[simp] theorem State.prepareAnswer_readings (s : State) (code : Byte) (r : Reply) : (s.prepareAnswer code r).readings = s.readings := rfl
@[simp] theorem State.prepareAnswer_cuts (s : State) (code : Byte) (r : Reply) : (s.prepareAnswer code r).cuts = s.cuts := rfl
@[simp] theorem State.prepareAnswer_breaks (s : State) (code : Byte) (r : Reply) : (s.prepareAnswer code r).breaks = s.breaks := rfl
@[simp] theorem State.prepareAnswer_horn (s : State) (code : Byte) (r : Reply) : (s.prepareAnswer code r).horn = s.horn := rfl
@[simp] theorem State.prepareAnswer_resetAccepted (s : State) (code : Byte) (r : Reply) : (s.prepareAnswer code r).resetAccepted = s.resetAccepted := rfl
@[simp] theorem State.prepareAnswer_attention (s : State) (code : Byte) (r : Reply) : (s.prepareAnswer code r).attention = s.attention := rfl
@[simp] theorem State.prepareAnswer_heartbeat (s : State) (code : Byte) (r : Reply) : (s.prepareAnswer code r).heartbeat = s.heartbeat := rfl
@[simp] theorem State.prepareAnswer_store (s : State) (code : Byte) (r : Reply) : (s.prepareAnswer code r).store = s.store := rfl
@[simp] theorem State.prepareAnswer_commit (s : State) (code : Byte) (r : Reply) : (s.prepareAnswer code r).commit = s.commit := rfl
@[simp] theorem State.prepareAnswer_lines (s : State) (code : Byte) (r : Reply) : (s.prepareAnswer code r).lines = s.lines := rfl
@[simp] theorem State.prepareAnswer_freeIndex (s : State) (code : Byte) (r : Reply) : (s.prepareAnswer code r).freeIndex = s.freeIndex := rfl
@[simp] theorem State.prepareAnswer_owed (s : State) (code : Byte) (r : Reply) : (s.prepareAnswer code r).owed = s.owed := rfl
@[simp] theorem State.prepareAnswer_pending (s : State) (code : Byte) (r : Reply) : (s.prepareAnswer code r).pending = s.pending := rfl

end Sys2Proof.Machine
end

