-- ==== Sys2Proof/Laws/Ops.lean ====
section
/-! SUPPORT. What each shared operation does, said once: proofs cite these lemmas and do not unfold the operation. -/

namespace Sys2Proof.Machine

/-! ## One of four, one of three -/

@[simp] theorem PerLane.get_set_same {α : Type} (p : PerLane α) (n : LaneId) (v : α) : (p.set n v).get n = v := by
  cases n <;> rfl

theorem PerLane.get_set_other {α : Type} (p : PerLane α) {n m : LaneId} (v : α) (h : m ≠ n) :
    (p.set n v).get m = p.get m := by
  cases n <;> cases m <;> first | rfl | exact absurd rfl h

@[simp] theorem PerLane.get_form {α : Type} (f : LaneId → α) (n : LaneId) : (PerLane.form f).get n = f n := by
  cases n <;> rfl

theorem PerLane.ext_get {α : Type} {p q : PerLane α} (h : ∀ n, p.get n = q.get n) : p = q := by
  cases p; cases q
  have h1 := h .one; have h2 := h .two; have h3 := h .three; have h4 := h .four
  simp only [PerLane.get] at h1 h2 h3 h4
  subst h1 h2 h3 h4; rfl

@[simp] theorem PerZone.get_set_same {α : Type} (p : PerZone α) (z : ZoneId) (v : α) : (p.set z v).get z = v := by
  cases z <;> rfl

theorem PerZone.get_set_other {α : Type} (p : PerZone α) {z y : ZoneId} (v : α) (h : y ≠ z) :
    (p.set z v).get y = p.get y := by
  cases z <;> cases y <;> first | rfl | exact absurd rfl h

@[simp] theorem PerZone.get_form {α : Type} (f : ZoneId → α) (z : ZoneId) : (PerZone.form f).get z = f z := by
  cases z <;> rfl

/-! ## Lanes -/

@[simp] theorem State.lane_setLane_same (s : State) (n : LaneId) (l : Lane) : (s.setLane n l).lane n = l :=
  PerLane.get_set_same ..

theorem State.lane_setLane_other (s : State) {n m : LaneId} (l : Lane) (h : m ≠ n) :
    (s.setLane n l).lane m = s.lane m := PerLane.get_set_other _ _ h

@[simp] theorem State.lane_modLane_same (s : State) (n : LaneId) (f : Lane → Lane) :
    (s.modLane n f).lane n = f (s.lane n) := PerLane.get_set_same ..

theorem State.lane_modLane_other (s : State) {n m : LaneId} (f : Lane → Lane) (h : m ≠ n) :
    (s.modLane n f).lane m = s.lane m := PerLane.get_set_other _ _ h

/-- The lanes are read from the field `lanes` alone. -/
theorem State.lane_congr {s t : State} (h : t.lanes = s.lanes) (n : LaneId) : t.lane n = s.lane n := by
  unfold State.lane; rw [h]

@[simp] theorem State.lane_reform (s : State) (n : LaneId) : s.reform.lane n = s.lane n := rfl
@[simp] theorem State.lane_latch (s : State) (c : Cause) (n : LaneId) : (s.latch c).lane n = s.lane n :=
  State.lane_congr (s.latch_lanes c) n
@[simp] theorem State.lane_latchLane (s : State) (c : Cause) (m n : LaneId) : (s.latchLane c m).lane n = s.lane n := rfl
@[simp] theorem State.lane_startCadence (s : State) (n : LaneId) : s.startCadence.lane n = s.lane n :=
  State.lane_congr s.startCadence_lanes n
@[simp] theorem State.lane_setReading (s : State) (c : Channel) (r : Reading) (n : LaneId) :
    (s.setReading c r).lane n = s.lane n := State.lane_congr (s.setReading_lanes c r) n
@[simp] theorem State.lane_setBreakInput (s : State) (m : LaneId) (b : BreakInput) (n : LaneId) :
    (s.setBreakInput m b).lane n = s.lane n := rfl
@[simp] theorem State.lane_enterDryer (s : State) (d : DryerState) (n : LaneId) : (s.enterDryer d).lane n = s.lane n :=
  rfl

/-! ## Channels -/

@[simp] theorem State.reading_setReading_same (s : State) (c : Channel) (r : Reading) :
    (s.setReading c r).reading c = r := by
  cases c <;> simp [State.setReading, State.reading]

theorem State.reading_setReading_other (s : State) {c d : Channel} (r : Reading) (h : d ≠ c) :
    (s.setReading c r).reading d = s.reading d := by
  cases c with
  | zone n z =>
    cases d with
    | zone m y =>
      by_cases hm : m = n
      · subst hm
        have hy : y ≠ z := fun e => h (by rw [e])
        simp [State.setReading, State.reading, PerZone.get_set_other _ _ hy]
      · simp [State.setReading, State.reading, PerLane.get_set_other _ _ hm]
    | webExit m => by_cases hm : m = n <;> simp [State.setReading, State.reading, PerLane.get_set_other, hm]
    | chillExit m => by_cases hm : m = n <;> simp [State.setReading, State.reading, PerLane.get_set_other, hm]
    | analyzer => rfl
    | chillWater => rfl
  | webExit n =>
    cases d with
    | zone m y => by_cases hm : m = n <;> simp [State.setReading, State.reading, PerLane.get_set_other, hm]
    | webExit m =>
      have hm : m ≠ n := fun e => h (by rw [e])
      simp [State.setReading, State.reading, PerLane.get_set_other _ _ hm]
    | chillExit m => by_cases hm : m = n <;> simp [State.setReading, State.reading, PerLane.get_set_other, hm]
    | analyzer => rfl
    | chillWater => rfl
  | chillExit n =>
    cases d with
    | zone m y => by_cases hm : m = n <;> simp [State.setReading, State.reading, PerLane.get_set_other, hm]
    | webExit m => by_cases hm : m = n <;> simp [State.setReading, State.reading, PerLane.get_set_other, hm]
    | chillExit m =>
      have hm : m ≠ n := fun e => h (by rw [e])
      simp [State.setReading, State.reading, PerLane.get_set_other _ _ hm]
    | analyzer => rfl
    | chillWater => rfl
  | analyzer => cases d <;> first | rfl | exact absurd rfl h
  | chillWater => cases d <;> first | rfl | exact absurd rfl h

/-! ## In-band judgement -/

@[simp] theorem Lane.judged_inBand (l : Lane) (b : Option Bool) : (l.judged b).inBand = b := by
  unfold Lane.judged; split <;> rfl
@[simp] theorem Lane.judged_key (l : Lane) (b : Option Bool) : (l.judged b).key = l.key := by
  unfold Lane.judged; split <;> rfl
@[simp] theorem Lane.judged_g (l : Lane) (b : Option Bool) : (l.judged b).g = l.g := by
  unfold Lane.judged; split <;> rfl
@[simp] theorem Lane.judged_target (l : Lane) (b : Option Bool) : (l.judged b).target = l.target := by
  unfold Lane.judged; split <;> rfl
@[simp] theorem Lane.judged_measured (l : Lane) (b : Option Bool) : (l.judged b).measured = l.measured := by
  unfold Lane.judged; split <;> rfl
@[simp] theorem Lane.judged_overspeed (l : Lane) (b : Option Bool) : (l.judged b).overspeed = l.overspeed := by
  unfold Lane.judged; split <;> rfl
@[simp] theorem Lane.judged_overCount (l : Lane) (b : Option Bool) : (l.judged b).overCount = l.overCount := by
  unfold Lane.judged; split <;> rfl
@[simp] theorem Lane.judged_graceMs (l : Lane) (b : Option Bool) : (l.judged b).graceMs = l.graceMs := by
  unfold Lane.judged; split <;> rfl
@[simp] theorem Lane.judged_stamp (l : Lane) (b : Option Bool) : (l.judged b).stamp = l.stamp := by
  unfold Lane.judged; split <;> rfl
@[simp] theorem Lane.judged_leadMs (l : Lane) (b : Option Bool) : (l.judged b).leadMs = l.leadMs := by
  unfold Lane.judged; split <;> rfl
@[simp] theorem Lane.judged_residual (l : Lane) (b : Option Bool) : (l.judged b).residual = l.residual := by
  unfold Lane.judged; split <;> rfl
@[simp] theorem Lane.judged_residualMs (l : Lane) (b : Option Bool) : (l.judged b).residualMs = l.residualMs := by
  unfold Lane.judged; split <;> rfl
@[simp] theorem Lane.judged_hotWeb (l : Lane) (b : Option Bool) : (l.judged b).hotWeb = l.hotWeb := by
  unfold Lane.judged; split <;> rfl
@[simp] theorem Lane.judged_encoder (l : Lane) (b : Option Bool) : (l.judged b).encoder = l.encoder := by
  unfold Lane.judged; split <;> rfl

/-- Judging moves a lane between THREADING and READY and no other way. -/
theorem Lane.judged_state (l : Lane) (b : Option Bool) :
    (l.judged b).state = l.state ∨
      (l.state = .threading ∧ b = some true ∧ (l.judged b).state = .ready) ∨
      (l.state = .ready ∧ b = some false ∧ (l.judged b).state = .threading) := by
  cases hs : l.state <;> rcases b with _ | _ | _ <;> simp [Lane.judged, hs]

@[simp] theorem Lane.judged_moving (l : Lane) (b : Option Bool) : (l.judged b).state.moving = l.state.moving := by
  rcases l.judged_state b with h | ⟨h, -, h'⟩ | ⟨h, -, h'⟩ <;> simp_all [LaneState.moving]

@[simp] theorem State.lane_settle_same (s : State) (n : LaneId) :
    (s.settle n).lane n = (s.lane n).judged (s.zonesInBand n) := State.lane_modLane_same ..

theorem State.lane_settle_other (s : State) {n m : LaneId} (h : m ≠ n) : (s.settle n).lane m = s.lane m :=
  State.lane_modLane_other _ _ h

/-! ## Targets -/

/-- What the removal of a target leaves of its lane. -/
theorem State.lane_removeTarget_same (s : State) (n : LaneId) :
    (s.removeTarget n).lane n = { (s.lane n).clearLead with target := none } := by
  cases n <;> rfl

theorem State.lane_removeTarget_other (s : State) {n m : LaneId} (h : m ≠ n) :
    (s.removeTarget n).lane m = s.lane m := by
  cases n <;> cases m <;> first | rfl | exact absurd rfl h

theorem State.removeTarget_queue (s : State) (n : LaneId) :
    (s.removeTarget n).arbiter.queue = s.arbiter.queue.filter (· != n) := rfl

/-- A decrease leaves the other lanes. -/
theorem State.lane_decrease_other (s : State) {n m : LaneId} (g : Nat) (h : m ≠ n) :
    (s.decrease n g).lane m = s.lane m := by
  unfold State.decrease
  rw [State.lane_settle_other _ h, State.lane_modLane_other _ _ h]

/-- A decrease sets g. -/
theorem State.decrease_g (s : State) (n : LaneId) (g : Nat) : ((s.decrease n g).lane n).g = g := by
  unfold State.decrease
  rw [State.lane_settle_same, Lane.judged_g, State.lane_modLane_same]
  unfold Lane.decreased
  dsimp only
  split <;> rfl

/-- A raise leaves the other lanes. -/
theorem State.lane_raise_other (s : State) {n m : LaneId} (g : Nat) (h : m ≠ n) : (s.raise n g).lane m = s.lane m := by
  unfold State.raise
  rw [State.lane_settle_other _ h, State.lane_modLane_other _ _ h]
  rfl

/-! ## Attention -/

theorem Attention.latch_latched (a : Attention) (c : Cause) : (a.latch c).latched = a.latched ||| c.bit := rfl

@[simp] theorem State.latch_latched (s : State) (c : Cause) :
    (s.latch c).attention = s.attention.latch c := by
  unfold State.latch; split <;> rfl

@[simp] theorem State.latchLane_attention (s : State) (c : Cause) (n : LaneId) :
    (s.latchLane c n).attention = s.attention.latchLane c n := rfl

/-! ## Frames -/

/-- A listening port is not deaf. -/
theorem Listening.not_deaf {s : State} (h : Listening s) : s.deaf = false := by
  simp [State.deaf, h.powered, h.noReset, h.free, h.hunts]

/-- A whole good frame of a body that fits is taken at once by a listening port. -/
theorem Listening.frameArrives {s : State} (h : Listening s) (dest : FrameTo) (code : Byte) {body : List Byte}
    (hb : body.length ≤ 96) :
    s.frameArrives dest code body = (s.setIdle (gapMs s.port.rate)).takeFrame dest code body := by
  have hd := h.not_deaf
  have hi : s.lineIdle = s.setIdle (gapMs s.port.rate) := by
    unfold State.lineIdle; rw [hd]; simp [h.hunts]
  have hd' : (s.setIdle (gapMs s.port.rate)).deaf = false := by
    simpa [State.deaf, State.setIdle] using hd
  unfold State.frameArrives
  rw [hi]
  have hs : (s.setIdle (gapMs s.port.rate)).port.state = .hunt := h.hunts
  simp [hd', hs, Nat.not_lt.mpr hb]

/-- A request that a listening port takes is answered: its owner runs on the state with the line idle. -/
theorem ListeningAt.requestArrives {s : State} (h : ListeningAt s) (code : Byte) {body : List Byte}
    (hb : body.length ≤ 96) :
    s.requestArrives code body = .next ((s.setIdle (gapMs s.port.rate)).answerRequest code body) := by
  have ha : (s.setIdle (gapMs s.port.rate)).port.address ≠ 0 := h.address
  unfold State.requestArrives
  rw [h.toListening.frameArrives .station code hb]
  unfold State.takeFrame
  have : (s.setIdle (gapMs s.port.rate)).setIdle (gapMs (s.setIdle (gapMs s.port.rate)).port.rate) =
      s.setIdle (gapMs s.port.rate) := rfl
  simp only [this]
  rw [if_neg ha]

/-! ## Frames of change -/

/-- Nothing has changed between a state and itself. -/
theorem KeepsAllBut.refl (changed : List Part) (s : State) : KeepsAllBut changed s s :=
  ⟨fun p _ => by cases p <;> rfl, rfl⟩

/-- Changes add up. -/
theorem KeepsAllBut.trans {changed : List Part} {s t u : State} (h : KeepsAllBut changed s t)
    (h' : KeepsAllBut changed t u) : KeepsAllBut changed s u := by
  refine ⟨fun p hp => ?_, h'.2.trans h.2⟩
  have a := h.1 p hp
  have b := h'.1 p hp
  cases p <;> exact Eq.trans b a

/-- More parts may be named. -/
theorem KeepsAllBut.mono {small large : List Part} {s t : State} (h : KeepsAllBut small s t) (hsub : small ⊆ large) :
    KeepsAllBut large s t :=
  ⟨fun p hp => h.1 p fun hin => hp (hsub hin), h.2⟩

/-! ## What falls due -/

/-- Commands arranged are the same commands in some order. -/
theorem arranged_perm (order : Nat → Nat) (l : List Instr) : (arranged order l).Perm l := by
  induction l with
  | nil => exact .refl _
  | cons i is ih =>
    have h : order is.length % (is.length + 1) ≤ (arranged order is).length :=
      ih.length_eq ▸ Nat.le_of_lt_succ (Nat.mod_lt _ (Nat.succ_pos _))
    exact (List.perm_insertIdx i (arranged order is) h).trans (ih.cons i)

/-- What falls due is what its parts post, in some order. -/
theorem State.mem_due (s : State) (i : Instr) : i ∈ s.due ↔ i ∈ s.dueEvents := (arranged_perm _ _).mem_iff

/-- An expiry falls due exactly where it is one of the part's, its timer is at its end, and, for the begin of an answer,
this millisecond is the chosen one. -/
theorem State.mem_dueEvents (s : State) (i : Instr) :
    i ∈ s.dueEvents ↔ i ∈ s.expiries ∧ s.isDue i = true ∧ s.chosen i = true := by
  simp [State.dueEvents]

/-- What is owed after a millisecond is due in it. -/
theorem State.isDue_of_mem_due {s : State} {i : Instr} (h : i ∈ s.due) : s.isDue i = true :=
  ((s.mem_dueEvents i).1 ((s.mem_due i).1 h)).2.1

/-- A waiting answer begins in the last millisecond of its window if it has not begun before (R132). -/
theorem State.answerBegin_mem_due {s : State} (hp : s.port.state = .answer) (hd : s.port.driving = false)
    (hw : windowMs s.port.rate ≤ s.port.answerMs + 1) : .answerBegin ∈ s.due := by
  refine (s.mem_due _).2 ((s.mem_dueEvents _).2 ⟨by simp [State.expiries], by simp [State.isDue, hp, hd], ?_⟩)
  exact decide_eq_true (Nat.le_trans (Nat.min_le_left _ _) hw)

/-- With no command waiting a step is a tick. -/
theorem step_idle {s : State} (h : s.pending = []) : step s = .next s.tick := by
  unfold step
  rw [h]

/-- An owed expiry whose timer is at its end is the next one taken. -/
theorem State.stillOwed_due {s : State} {i : Instr} {rest : List Instr} (h : s.owed = i :: rest)
    (hd : s.isDue i = true) : s.stillOwed = i :: rest := by
  simp [State.stillOwed, h, hd]

/-- An owed expiry whose timer is not at its end any more is dropped. -/
theorem State.stillOwed_dropped {s : State} {i : Instr} {rest : List Instr} (h : s.owed = i :: rest)
    (hd : s.isDue i = false) : s.stillOwed = ({ s with owed := rest } : State).stillOwed := by
  unfold State.stillOwed
  rw [h, List.dropWhile_cons_of_pos (by simpa using hd)]
  rfl

/-- Everything a tick can do: nothing without the supply; post the station reset that is due; post the first expiry that
is still owed; or let a millisecond pass and post the first expiry that falls due in it. -/
theorem State.tick_cases (s : State) :
    s.powered = false ∧ s.tick = s ∨
    s.powered = true ∧ s.resetDue = true ∧ s.tick = { s with pending := [.stationReset s.straps] } ∨
    (∃ i rest, s.powered = true ∧ s.resetDue = false ∧ s.stillOwed = i :: rest ∧
      s.tick = { s with owed := rest, pending := [i] }) ∨
    s.powered = true ∧ s.resetDue = false ∧ s.stillOwed = [] ∧ s.tick = s.pass.post := by
  unfold State.tick
  cases hp : s.powered <;> cases hr : s.resetDue <;> cases ho : s.stillOwed <;> simp [State.post]

/-- The line has nothing to abandon where the port hears frames. -/
theorem Listening.busyLine {s : State} (h : Listening s) : s.busyLine = s := by
  simp [State.busyLine, h.hunts]

end Sys2Proof.Machine
end

