-- ==== Sys2Proof/Tests/Slice0.lean ====
section
/-! SUPPORT. The model's own tests: ill-formed commands, figures of the manual's worked cases, and for every statement
with hypotheses a state and operands that meet them. -/

namespace Sys2Proof.Tests

set_option Elab.async false

open Sys2Proof Sys2Proof.Machine

/-! ## States to test on: the installation of chapter 12 -/

/-- The calibration of chapter 12. -/
def cal : Calibration :=
  { Calibration.default with
    analyzerFitted := true, qMin := 60, qPurge := 120, qMax := 400, volume := 45, staleAge := 5 }

/-- Profile 4711 (chapters 2 and 12), bound by so many lanes. -/
def job4711 (bound : Nat) (retiring : Bool) : Profile :=
  { key := 4711, width := 965
    couples := [⟨1, 70, 400⟩, ⟨2, 65, 400⟩, ⟨3, 60, 400⟩, ⟨4, 90, 400⟩]
    bands := [⟨300, 200, 220, 210, 110, 28⟩, ⟨600, 225, 250, 235, 120, 27⟩, ⟨800, 245, 270, 255, 130, 25⟩]
    tolerance := 10, override := none, revision := 3, retirePending := retiring, bindCount := bound, slot := 0 }

/-- Profile 3020 (chapters 1 and 2), bound by so many lanes. -/
def job3020 (bound : Nat) : Profile :=
  { key := 3020, width := 880, couples := [⟨1, 120, 350⟩, ⟨2, 110, 350⟩]
    bands := [⟨300, 190, 210, 200, 110, 28⟩, ⟨500, 210, 235, 220, 120, 28⟩, ⟨650, 230, 260, 240, 130, 26⟩]
    tolerance := 12, override := none, revision := 6, retirePending := false, bindCount := bound, slot := 1 }

/-- A calibrated part in OFF with both profiles, nothing bound. -/
def idle : State :=
  { State.reset with cal := ⟨cal, true, false⟩, profiles := [job3020 0, job4711 0 false] }

/-- A fresh reading. -/
def fresh (v : Int) : Reading := ⟨some v, true, 0⟩

/-- Five fresh readings of a lane. -/
def readings (a b c : Int) : LaneReadings := ⟨⟨fresh a, fresh b, fresh c⟩, fresh 125, fresh 20⟩

/-- A HEATING dryer: lane 1 RUNNING on 4711 at 400 with a target of 500, lane 2 READY on 3020 at crawl with a target of
450, lane 3 in BREAK on 4711, lane 4 UNTHREADED. -/
def heating : State :=
  { idle with
    profiles := [job3020 1, job4711 2 false]
    dryer := ⟨.heating, 91000, 0, none⟩
    exhaust := ⟨⟨25, 25, 25, 25⟩, 300, 0, 7, 0, 1808, 0⟩
    readings := ⟨⟨readings 225 250 235, readings 190 210 200, readings 200 220 210, readings 20 20 20⟩, fresh 1, fresh 15⟩
    load := ⟨40, 5, 9, 0⟩
    arbiter := ⟨[.one, .two], 10, 0, 0⟩
    lanes :=
      ⟨{ Lane.fresh with state := .running, key := some 4711, g := 400, target := some 500, stamp := 10, inBand := some true },
       { Lane.fresh with state := .ready, key := some 3020, g := 30, target := some 450, inBand := some true },
       { Lane.fresh with state := .broke, key := some 4711, residual := some 331, residualMs := 20000, inBand := some true },
       Lane.fresh⟩ }.reform


/-- The state in which a command leaves the part. -/
def after (c : Instr) (s : State) : State :=
  match exec c s with
  | .next t => t
  | _ => s

/-! ## Commands that are not well-formed -/

/-- A character with good parity. -/
def good (d : Byte) (gap : Bool) : LineChar := ⟨d, onesBelow d 8 % 2 == 1, true, false, gap⟩

/-- A PLOOK of key 1 to station 1, as characters. -/
def plookChars : List LineChar :=
  match frameOf 1 1 [0, 1] with
  | [] => []
  | c :: cs => good c true :: cs.map (good · false)

theorem test_body_of_97_refused : (Instr.crd (List.replicate 97 0)).wellFormed = false := by decide +kernel
theorem test_body_of_96_accepted : (Instr.crd (List.replicate 96 0)).wellFormed = true := by decide +kernel
theorem test_known_code_is_not_unknown : (Instr.unknownRequest 0x14 []).wellFormed = false := by decide +kernel
theorem test_broadcast_is_not_another_station : (Instr.otherStationFrame 0 1 []).wellFormed = false := by decide +kernel
theorem test_broadcast_beat_is_not_discarded : (Instr.broadcastDiscard 0x18 []).wellFormed = false := by decide +kernel
theorem test_whole_good_frame_is_not_discarded : (Instr.frameDiscard plookChars).wellFormed = false := by decide +kernel
theorem test_discard_needs_a_frame_start :
    (Instr.frameDiscard (List.replicate 5 (good 0 false))).wellFormed = false := by decide +kernel
theorem test_whole_frame_is_not_short : (Instr.shortFrame plookChars).wellFormed = false := by decide +kernel
theorem test_partial_frame_is_not_overlong :
    (Instr.overlongFrame (plookChars.take 4) (good 0 false)).wellFormed = false := by decide +kernel

/-! ## Figures of the manual -/

theorem test_areal_loads : (job4711 0 false).arealLoad = 1140 ∧ (job3020 0).arealLoad = 805 := by decide +kernel
theorem test_lane_load_rounds_up : (job3020 0).loadAt 450 = 319 ∧ (job4711 0 false).loadAt 600 = 661 := by decide +kernel
theorem test_fitting_speed_of_539 : (job3020 0).fittingSpeed 539 = some 760 := by decide +kernel
theorem test_speed_duty_of_crawl : speedDuty 30 = 25 ∧ speedDuty 1200 = 1023 := by decide +kernel
theorem test_line_rates : [0, 1, 2, 3].map (fun r => bitRate (BitVec.ofNat 2 r)) = [9600, 19200, 57600, 115200] := by
  decide +kernel
theorem test_check_of_nine_digits :
    checkOf [0x31, 0x32, 0x33, 0x34, 0x35, 0x36, 0x37, 0x38, 0x39] = 0x29B1 := by decide +kernel
theorem test_overspeed_limits : overspeedLimit 500 = 525 ∧ overspeedLimit 450 = 472 := by decide +kernel
theorem test_measured_speed : measuredSpeed 85 82 20 = 501 ∧ measuredSpeed 90 91 20 = 543 := by decide +kernel

/-- Chapter 12: the purge target of 4 × 45 × 10 pulses, and D = 120 with its duty 306. -/
theorem test_dstart_purges : (after (.dstart []) idle).port.answer = frameOf 1 0x50 (be3 1800) ∧
    (after (.dstart []) idle).dryer.state = .purge ∧ (after (.dstart []) idle).lines.fan = 306 := by decide +kernel

/-- Chapter 1: PTRIM of coverage 130 and bound 700 takes revision 6 to 7 and the maximum to 700. -/
theorem test_ptrim_worked :
    (after (.ptrim ([0x0B, 0xCC, 1, 6, 2, 1, 2] ++ be2 130 ++ [6, 3] ++ be2 700)) idle).port.answer =
      frameOf 1 0x44 (7 :: be2 700) := by decide +kernel

/-- Chapter 1: the trim with the old revision is refused with STALE_REVISION and the revision. -/
theorem test_ptrim_stale_revision :
    (after (.ptrim ([0x0B, 0xCC, 1, 5, 1, 1, 2] ++ be2 100)) idle).port.answer = frameOf 1 0x84 [8, 6] := by decide +kernel

/-- Chapter 8: KSTAT with flag 1 answers the counts as they stood and clears them. -/
theorem test_kstat_clears :
    (after (.kstat [1]) { idle with port := { idle.port with discarded := 3, lastError := .check } }).port.answer =
      frameOf 1 0x69 [6, 0, 3, 0, 0] ∧
    (after (.kstat [1]) { idle with port := { idle.port with discarded := 3 } }).port.discarded = 0 := by decide +kernel

/-- Chapter 9: urgent causes named in a mask are ignored. -/
theorem test_atmsk_ignores_urgent : (after (.atmsk [3, 0xFF, 0xFF]) idle).attention.mask = 0x3FFC0 := by decide +kernel

/-- Chapter 4: a raise by one ramp step takes the next stamp; the READY lane leaves crawl and is RUNNING. -/
theorem test_evaluation_raises :
    ((after .evaluation heating).lane .one).g = 450 ∧ ((after .evaluation heating).lane .one).stamp = 11 ∧
    ((after .evaluation heating).lane .two).g = 80 ∧ ((after .evaluation heating).lane .two).state = .running := by
  decide +kernel

/-- Chapter 7: a confirmed break takes its lane to BREAK with the load it had, 441 g/min at 400 m/min. -/
theorem test_break_keeps_load :
    ((after (.lbrk [1]) heating).lane .one).state = .broke ∧
    ((after (.lbrk [1]) heating).lane .one).residual = some 441 ∧ (after (.lbrk [1]) heating).lines.horn = true := by
  decide +kernel

/-- Chapter 6: a value above its channel's range is taken as the top of the range. -/
theorem test_rdg_clamps : (after (.rdg [1, 4, 0x01, 0x5E]) idle).reading (.webExit .one) = ⟨some 300, true, 0⟩ := by
  decide +kernel

/-! ## States and operands that meet the statements' hypotheses -/

theorem listening_of (s : State) (h : s.powered = true ∧ s.resetAccepted = false ∧ s.port.held = false ∧
    s.port.state = .hunt ∧ s.port.address ≠ 0) : ListeningAt s :=
  { powered := h.1, noReset := h.2.1, free := h.2.2.1, hunts := h.2.2.2.1, address := h.2.2.2.2 }

theorem listening_idle : ListeningAt idle := listening_of _ (by decide +kernel)
theorem listening_heating : ListeningAt heating := listening_of _ (by decide +kernel)

theorem each {P : LaneId → Prop} (a : P .one) (b : P .two) (c : P .three) (d : P .four) : ∀ n, P n
  | .one => a
  | .two => b
  | .three => c
  | .four => d

theorem eachZone {P : ZoneId → Prop} (a : P .z1) (b : P .z2) (c : P .z3) : ∀ z, P z
  | .z1 => a
  | .z2 => b
  | .z3 => c

theorem valid_4711_unbound : ValidProfile (job4711 0 false) where
  key := by decide +kernel
  width := by decide +kernel
  coupleCount := by decide +kernel
  couples := by decide +kernel
  couplesDiffer := by decide +kernel
  bandCount := by decide +kernel
  bounds := by decide +kernel
  setpoints := fun b hb => eachZone (by revert b; decide) (by revert b; decide) (by revert b; decide)
  exits := by decide +kernel
  boundsAscend := by decide +kernel
  tolerance := by decide +kernel
  override := fun v h => by cases h
  couplesAscend := by decide +kernel

theorem valid_4711 (k : Nat) (r : Bool) : ValidProfile (job4711 k r) :=
  { toValidFields := valid_4711_unbound.toValidFields, couplesAscend := valid_4711_unbound.couplesAscend }

theorem valid_3020_unbound : ValidProfile (job3020 0) where
  key := by decide +kernel
  width := by decide +kernel
  coupleCount := by decide +kernel
  couples := by decide +kernel
  couplesDiffer := by decide +kernel
  bandCount := by decide +kernel
  bounds := by decide +kernel
  setpoints := fun b hb => eachZone (by revert b; decide) (by revert b; decide) (by revert b; decide)
  exits := by decide +kernel
  boundsAscend := by decide +kernel
  tolerance := by decide +kernel
  override := fun v h => by cases h
  couplesAscend := by decide +kernel

theorem valid_3020 (k : Nat) : ValidProfile (job3020 k) :=
  { toValidFields := valid_3020_unbound.toValidFields, couplesAscend := valid_3020_unbound.couplesAscend }

/-- The laws of a state that bind no variable but a lane, in a form that can be computed. -/
def lawsHold (s : State) : Prop :=
  (∀ n ∈ LaneId.all,
    ((s.lane n).key = none ↔ (s.lane n).state = .unthreaded) ∧
    (s.lane n).key.all (fun k => (findProfile s.profiles k).isSome) = true ∧
    (s.lane n).g % 5 = 0 ∧ (s.lane n).g ≤ maxSpeed (s.bandsOf n) ∧
    ((s.lane n).state.moving = false → (s.lane n).g = 0) ∧ (s.dryer.state ≠ .heating → (s.lane n).g = 0) ∧
    ((s.lane n).state = .threading ∨ (s.lane n).state = .ready → (s.lane n).g ≤ s.cal.values.crawl) ∧
    ((s.lane n).state = .running → s.cal.values.crawl < (s.lane n).g)) ∧
  (∀ n ∈ LaneId.all,
    (n ∈ s.arbiter.queue ↔ (s.lane n).target ≠ none) ∧ (n ∈ s.arbiter.queue → (s.lane n).state.moving = true) ∧
    (s.lane n).target.all (fun t => decide ((s.lane n).g < t ∧ t % 5 = 0 ∧ t ≤ maxSpeed (s.bandsOf n))) = true ∧
    (s.lane n).lead = none) ∧
  (∀ n ∈ LaneId.all,
    ((s.lane n).residual ≠ none → (s.lane n).state = .broke ∨ (s.lane n).state = .suspended) ∧
    ((s.lane n).state = .broke → (s.lane n).residual ≠ none) ∧
    ((s.lane n).state.moving = false → (s.lane n).overspeed = false ∧ (s.lane n).overCount = 0) ∧
    ((s.lane n).state ≠ .running → (s.lane n).hotWeb = 0) ∧
    (s.lane n).overCount ≤ 2 ∧ (s.lane n).hotWeb ≤ 9 ∧ (s.lane n).measured ≤ 1500) ∧
  (∀ n ∈ LaneId.all,
    (s.lane n).inBand = s.zonesInBand n ∧ ((s.lane n).state = .threading → (s.lane n).inBand ≠ some true) ∧
    ((s.lane n).state = .ready → (s.lane n).inBand = some true))

theorem mem_all : ∀ n : LaneId, n ∈ LaneId.all
  | .one | .two | .three | .four => by decide

/-- A state is lawful where its laws of lanes compute to true, and its others hold. -/
theorem lawful_of {s : State} (cal : CalibrationLaw s) (table : TableLaw s) (profiles : ProfilesLaw s)
    (bound : ∀ p ∈ s.profiles, p.bindCount = s.lanesBound p.key ∧ (p.retirePending = true → 1 ≤ p.bindCount))
    (queue : s.arbiter.queue.Nodup ∧ (s.dryer.state ≠ .heating → s.arbiter.queue = [])) (lanes : lawsHold s)
    (figures : FiguresLaw s) (horn : HornLaw s) (counts : CountLaw s) : Lawful s where
  calibration := cal
  table := table
  profiles := profiles
  binding :=
    { keyed := fun n => (lanes.1 n (mem_all n)).1
      present := fun n k h => by simpa [h] using (lanes.1 n (mem_all n)).2.1
      counted := fun p hp => (bound p hp).1
      retiring := fun p hp => (bound p hp).2 }
  speed :=
    { step := fun n => (lanes.1 n (mem_all n)).2.2.1
      atMostMax := fun n => (lanes.1 n (mem_all n)).2.2.2.1
      stopped := fun n => (lanes.1 n (mem_all n)).2.2.2.2.1
      onlyHeating := fun n => (lanes.1 n (mem_all n)).2.2.2.2.2.1
      crawling := fun n => (lanes.1 n (mem_all n)).2.2.2.2.2.2.1
      running := fun n => (lanes.1 n (mem_all n)).2.2.2.2.2.2.2 }
  queue :=
    { nodup := queue.1
      target := fun n => (lanes.2.1 n (mem_all n)).1
      moving := fun n => (lanes.2.1 n (mem_all n)).2.1
      above := fun n t h => by simpa [h] using (lanes.2.1 n (mem_all n)).2.2.1
      onlyHeating := queue.2
      lead := fun n d h => by simp [(lanes.2.1 n (mem_all n)).2.2.2] at h }
  lane :=
    { hold := fun n => (lanes.2.2.1 n (mem_all n)).1
      broke := fun n => (lanes.2.2.1 n (mem_all n)).2.1
      unjudged := fun n => (lanes.2.2.1 n (mem_all n)).2.2.1
      hotWeb := fun n => (lanes.2.2.1 n (mem_all n)).2.2.2.1
      counts := fun n => (lanes.2.2.1 n (mem_all n)).2.2.2.2 }
  inBand :=
    { formed := fun n => (lanes.2.2.2 n (mem_all n)).1
      threading := fun n => (lanes.2.2.2 n (mem_all n)).2.1
      ready := fun n => (lanes.2.2.2 n (mem_all n)).2.2
      leading := fun n h => by simp [Lane.isLeading, (lanes.2.1 n (mem_all n)).2.2.2] at h }
  figures := figures
  horn := horn
  counts := counts

/-- The heating part after a change that leaves its table and calibration as they are. -/
theorem lawful_changed {s : State} (hp : s.profiles = heating.profiles) (hc : s.cal = heating.cal)
    (hs : s.store = heating.store) (hd : s.dryer = heating.dryer)
    (bound : ∀ p ∈ heating.profiles, p.bindCount = s.lanesBound p.key)
    (queue : s.arbiter.queue.Nodup) (lanes : lawsHold s)
    (figures : s.load.activeLimit = s.formLimit ∧ s.load.fanDemand = s.formDemand ∧ s.lines = s.formLines)
    (horn : s.horn = heating.horn ∧ s.attention = heating.attention)
    (counts : s.load.peak ≤ 999 ∧ s.load.estimated ≤ 999 ∧ s.arbiter.excess ≤ 2 ∧ s.exhaust.zeroRun ≤ 3 ∧
      s.port = heating.port) : Lawful s :=
  lawful_of
    ⟨by rw [hc]; decide +kernel, fun _ => by rw [hc]; decide +kernel, by rw [hc]; decide +kernel,
      by rw [hc]; decide +kernel⟩
    ⟨by rw [hp]; decide +kernel, by rw [hp]; decide +kernel, by rw [hp]; decide +kernel, by rw [hs]; decide +kernel⟩
    (fun p h => by
      have : p = job3020 1 ∨ p = job4711 2 false := by
        simpa [heating, idle, State.reform] using (hp ▸ h : p ∈ heating.profiles)
      rcases this with rfl | rfl
      · exact valid_3020 _
      · exact valid_4711 _ _)
    (fun p h => ⟨bound p (hp ▸ h), by
      have : p = job3020 1 ∨ p = job4711 2 false := by
        simpa [heating, idle, State.reform] using (hp ▸ h : p ∈ heating.profiles)
      rcases this with rfl | rfl <;> decide⟩)
    ⟨queue, fun h => absurd (show s.dryer.state = .heating by rw [hd]; rfl) h⟩ lanes ⟨figures.1, figures.2.1, figures.2.2⟩
    ⟨by rw [horn.1, horn.2]; decide +kernel, by rw [horn.1]; decide +kernel⟩
    ⟨⟨counts.1, counts.2.1⟩, counts.2.2.1, counts.2.2.2.1, by rw [counts.2.2.2.2]; decide +kernel,
      by rw [horn.2]; decide +kernel⟩

theorem lawful_heating : Lawful heating :=
  lawful_changed rfl rfl rfl rfl (by decide +kernel) (by decide +kernel) (by unfold lawsHold; decide +kernel)
    (by decide +kernel) ⟨rfl, rfl⟩ (by decide +kernel)

/-- The idle part with the dryer in a given state, its figures formed. -/
def inState (d : DryerState) : State := { idle with dryer := { idle.dryer with state := d } }.reform

/-- A state with a commit in flight: slot 1 to be erased. -/
def committing (s : State) : State := { s with commit := some ⟨[(1, none)], none, 0, 24⟩ }

/-- A state whose port has an answer, waiting or being driven. -/
def answeringPort (driving : Bool) (s : State) : State :=
  { s with port := { s.port with state := .answer, answer := [0x41, 0x42], driving := driving } }

/-- The heating part with lane 1 changed. -/
def withOne (f : Lane → Lane) : State := heating.modLane .one f

/-- The heating part with lane 1 at 450, one ramp step below its target of 500. -/
def nearTarget : State := (withOne fun l => { l with g := 450 }).reform

/-- The heating part with its flow lost, so that nothing fits. -/
def noFlow : State := { heating with exhaust := { heating.exhaust with qMeas := 0 } }

theorem listening (s : State) (h : ListeningAt s) : Listening s := h.toListening

theorem lawful_flow (q : Nat) (h : q = 0 ∨ q = 45) :
    Lawful { heating with exhaust := { heating.exhaust with qMeas := q } } := by
  rcases h with rfl | rfl <;>
    exact lawful_changed rfl rfl rfl rfl (by decide +kernel) (by decide +kernel) (by unfold lawsHold; decide +kernel)
      (by decide +kernel) ⟨rfl, rfl⟩ (by decide +kernel)

/-- The heating part with a flow that no longer carries both webs. -/
def lowFlow : State := { heating with exhaust := { heating.exhaust with qMeas := 45 } }

/-- The heating part with the analyzer excess count at 2. -/
def excessive : State := { heating with arbiter := { heating.arbiter with excess := 2 } }

/-- The heating part with lane 1's chill exit far too warm at its tenth evaluation. -/
def hotWebDue : State :=
  (withOne fun l => { l with hotWeb := 9 }).setReading (.chillExit .one) (fresh 60)

theorem lawful_excessive : Lawful excessive :=
  lawful_changed rfl rfl rfl rfl (by decide +kernel) (by decide +kernel) (by unfold lawsHold; decide +kernel)
    (by decide +kernel) ⟨rfl, rfl⟩ (by decide +kernel)

theorem lawful_hotWebDue : Lawful hotWebDue :=
  lawful_changed rfl rfl rfl rfl (by decide +kernel) (by decide +kernel) (by unfold lawsHold; decide +kernel)
    (by decide +kernel) ⟨rfl, rfl⟩ (by decide +kernel)

/-- The heating part with lane 1's chill water too warm, which holds every entry. -/
def warmWater : State := heating.setReading .chillWater (fresh 60)

theorem lawful_warmWater : Lawful warmWater :=
  lawful_changed rfl rfl rfl rfl (by decide +kernel) (by decide +kernel) (by unfold lawsHold; decide +kernel)
    (by decide +kernel) ⟨rfl, rfl⟩ (by decide +kernel)

/-- The heating part with the profile of lane 2 to be retired and a commit in flight. -/
def retiring : State :=
  { heating with
    profiles := [{ job3020 1 with retirePending := true }, job4711 2 false], commit := some ⟨[(5, none)], none, 0, 3⟩ }

theorem lawful_retiring : Lawful retiring :=
  lawful_of ⟨by decide +kernel, by decide +kernel, by decide +kernel, by decide +kernel⟩
    ⟨by decide +kernel, by decide +kernel, by decide +kernel, by decide +kernel⟩
    (fun p h => by
      have : p = { job3020 1 with retirePending := true } ∨ p = job4711 2 false := by simpa [retiring] using h
      rcases this with rfl | rfl
      · exact { valid_3020 1 with }
      · exact valid_4711 _ _)
    (by decide +kernel) (by decide +kernel) (by unfold lawsHold; decide +kernel)
    ⟨by decide +kernel, by decide +kernel, by decide +kernel⟩ ⟨by decide +kernel, by decide +kernel⟩
    ⟨by decide +kernel, by decide +kernel, by decide +kernel, by decide +kernel, by decide +kernel⟩

/-! ### The machine and the laws -/

theorem witness_StepRunsFrontCommand :
    { idle with pending := [.evaluation, .linkFree] }.pending = .evaluation :: [.linkFree] := rfl

theorem witness_IdleStepPassesOneMillisecond :
    heating.pending = [] ∧ heating.powered = true ∧ heating.resetDue = false ∧ heating.owed = [] ∧
    2 ≤ ((withOne fun l => { l with graceMs := 2 }).lane .one).graceMs ∧
    ((withOne fun l => { l with graceMs := 1 }).lane .one).graceMs = 1 := by decide +kernel

/-- A part that owes expiries of a millisecond: lane 1's grace is at its end, lane 2's is not. -/
def owing (rest : List Instr) : State :=
  { withOne fun l => { l with graceMs := 1 } with owed := rest }

theorem witness_IdleStepPassesOneMillisecond_owed :
    (owing [.decelGraceExpiry .one]).isDue (.decelGraceExpiry .one) = true ∧
    (owing [.decelGraceExpiry .two]).isDue (.decelGraceExpiry .two) = false ∧
    (owing []).pending = [] ∧ (owing []).powered = true ∧ (owing []).resetDue = false := by decide +kernel

/-- Chapter 8: an answer whose beginning is owed begins in that millisecond, whatever the free values are by then. -/
theorem test_owed_answer_begins :
    ({ answeringPort false idle with owed := [.answerBegin], freeIndex := 7 } : State).tick.pending = [.answerBegin] := by
  decide +kernel

/-- Chapter 3: a grace that has been restarted is not ended by the expiry of the millisecond before. -/
theorem test_restarted_timer_owes_nothing :
    (owing [.decelGraceExpiry .two, .decelGraceExpiry .one]).tick.pending = [.decelGraceExpiry .one] := by
  decide +kernel

theorem witness_IdleStepPassesOneMillisecond_timers :
    (inState .purge).dryer.state = .purge ∧ (inState .cooldown).dryer.state = .cooldown ∧
    (after (.beat true []) heating).heartbeat.armed = true ∧ heating.heartbeat.armed = false ∧
    25 ≤ 24 + 1 ∧ (committing idle).commit = some ⟨[(1, none)], none, 0, 24⟩ ∧
    (answeringPort false idle).port.state = .answer ∧ (answeringPort true idle).port.driving = true ∧
    heating.port.state = .hunt ∧ (heating.reading .analyzer).fresh = true ∧ (idle.reading .analyzer).fresh = false := by
  decide +kernel

/-- For every statement over a step from a lawful state. -/
theorem witness_lawful_step : Lawful heating ∧ step heating = .next heating.tick := ⟨lawful_heating, rfl⟩

theorem figures_inState (d : DryerState) : FiguresLaw (inState d) := by
  cases d <;> exact ⟨by decide +kernel, by decide +kernel, by decide +kernel⟩

theorem witness_FanLaw : (∀ d, CalibrationLaw (inState d) ∧ FiguresLaw (inState d) ∧ (inState d).dryer.state = d) := by
  intro d
  refine ⟨?_, figures_inState d, rfl⟩
  cases d <;> exact ⟨by decide +kernel, by decide +kernel, by decide +kernel, by decide +kernel⟩

/-! ### The arithmetic -/

theorem witness_FittingSpeedExact :
    ValidFields (job3020 0).toProfileFields ∧ 0 < (job3020 0).arealLoad ∧ (0 : Int) < 539 :=
  ⟨(valid_3020 0).toValidFields, by decide +kernel⟩

theorem witness_RequiredFlowLeast :
    0 < heating.cal.values.cl ∧ 0 < heating.load.activeLimit ∧
    980 * 100 ≤ 98 * (idle.cal.values.cl * idle.load.activeLimit) ∧
    200 ≤ idle.cal.values.cl * idle.load.activeLimit := by decide +kernel

theorem witness_EvaluationRaisesWithinCapacity :
    exec .evaluation heating = .next (after .evaluation heating) ∧ Lawful heating ∧ heating.powered = true ∧
    heating.dryer.state = .heating ∧ (heating.lane .one).g < ((after .evaluation heating).lane .one).g :=
  ⟨rfl, lawful_heating, by decide +kernel⟩

theorem witness_RaiseOnlyUnheld_below_target :
    ((after .evaluation heating).lane .one).g < 500 ∧ (heating.lane .one).target = some 500 := by decide +kernel

theorem witness_RaiseOnlyUnheld_at_target :
    nearTarget.powered = true ∧ nearTarget.dryer.state = .heating ∧ (nearTarget.lane .one).target = some 500 ∧
    (nearTarget.lane .one).g = 450 ∧ ((after .evaluation nearTarget).lane .one).g = 500 := by decide +kernel

theorem quiet_heating : NoHotWebStep heating :=
  each (fun _ _ => by decide +kernel) (fun _ _ => by decide +kernel) (fun _ _ => by decide +kernel)
    (fun _ _ => by decide +kernel)

theorem witness_RaiseOnlyUnheld_first_entry :
    Lawful heating ∧ heating.powered = true ∧ heating.dryer.state = .heating ∧ heating.totalLoad ≤ heating.capacity ∧
    heating.arbiter.excess ≠ 2 ∧ NoHotWebStep heating ∧ heating.arbiter.queue = [] ++ .one :: [.two] ∧
    heating.held .one = false ∧ .three ∉ heating.arbiter.queue ∧ heating.profileOf .one = some (job4711 2 false) ∧
    ((job4711 2 false).fittingSpeed (budgetOf heating .one)).isSome ∧
    ((after .evaluation heating).lane .one).g = 450 :=
  ⟨lawful_heating, by decide +kernel, by decide +kernel, by decide +kernel, by decide +kernel, quiet_heating,
    by decide +kernel⟩

theorem witness_RaiseOnlyUnheld_held :
    Lawful warmWater ∧ warmWater.held .one = true ∧ warmWater.totalLoad ≤ warmWater.capacity ∧
    (after .evaluation warmWater).lane .one = warmWater.lane .one :=
  ⟨lawful_warmWater, by decide +kernel⟩

theorem witness_EvaluationFitsOrHolds :
    Lawful heating ∧ (after .evaluation heating).dryer.state = .heating ∧
    Lawful noFlow ∧ (after .evaluation noFlow).dryer.state = .safeHold :=
  ⟨lawful_heating, by decide +kernel, lawful_flow 0 (.inl rfl), by decide +kernel⟩

theorem first_to_lower {s : State} (h : s.lanes = heating.lanes) : FirstToLower s .one :=
  ⟨by simp only [State.lane, h]; decide +kernel, by
    simp only [State.lane, h]
    exact each (fun h => absurd rfl h) (fun _ h => absurd h (by decide +kernel)) (fun _ h => absurd h (by decide +kernel))
      (fun _ h => absurd h (by decide +kernel))⟩

theorem witness_EvaluationFitsOrHolds_withdrawal :
    Lawful lowFlow ∧ lowFlow.powered = true ∧ lowFlow.dryer.state = .heating ∧ lowFlow.capacity < lowFlow.totalLoad ∧
    lowFlow.arbiter.excess ≠ 2 ∧ (∀ n, (lowFlow.lane n).hotWeb < 9) ∧
    (after .evaluation lowFlow).dryer.state = .heating ∧ FirstToLower lowFlow .one ∧
    ((after .evaluation lowFlow).lane .one).g < (lowFlow.lane .one).g :=
  ⟨lawful_flow 45 (.inr rfl), by decide +kernel, by decide +kernel, by decide +kernel, by decide +kernel,
    each (by decide +kernel) (by decide +kernel) (by decide +kernel) (by decide +kernel), by decide +kernel,
    first_to_lower rfl, by decide +kernel⟩

theorem witness_CheckOfFrame : frameGood ([0x41] ++ [0xB9, 0x15]) = true ∧ frameGood ([0x41] ++ [0, 0]) = false := by
  decide +kernel

theorem witness_PwriteBodyRoundTrip : ValidFields (job4711 0 false).toProfileFields := (valid_4711 0 false).toValidFields

theorem witness_CalibrationBlockRoundTrip : firstFailed (calibrationTests cal.toValues) = none := by decide +kernel

/-! ### Requests that read -/

theorem witness_PlookAnswersRecord :
    ListeningAt heating ∧ ProfilesLaw heating ∧ findProfile heating.profiles (0x12 * 256 + 0x67) ≠ none ∧
    findProfile heating.profiles 1 = none ∧ ([] : List Byte).length ≠ 2 :=
  ⟨listening_heating, lawful_heating.profiles, by decide +kernel⟩

theorem witness_PlistAnswersPage : ListeningAt heating ∧ TableLaw heating := ⟨listening_heating, lawful_heating.table⟩

theorem witness_LstatAnswersLane :
    ListeningAt heating ∧ .one ∈ heating.arbiter.queue ∧ .four ∉ heating.arbiter.queue ∧ (4 < (5 : Byte).toNat) ∧
    ([] : List Byte).length ≠ 1 :=
  ⟨listening_heating, by decide +kernel⟩

/-- Chapter 4: chill water above its limit is bit 5 of the hold set of a queued lane. -/
theorem test_lstat_chill_water_hold :
    ((after (.lstat [1]) warmWater).port.answer.getD 30 0) = 0x20 ∧
    ((after (.lstat [1]) heating).port.answer.getD 30 0) = 0 := by decide +kernel

theorem witness_StatusAnswers : ListeningAt heating ∧ ([0] : List Byte) ≠ [] := ⟨listening_heating, by decide +kernel⟩

theorem witness_PkrdAndKstatReadAndClear :
    ListeningAt heating ∧ (2 : Byte) ≠ 0 ∧ (2 : Byte) ≠ 1 ∧ ([0, 0] : List Byte).length ≠ 1 :=
  ⟨listening_heating, by decide +kernel⟩

/-! ### The profile requests -/

theorem witness_CommitAnswersBusy : ListeningAt (committing idle) ∧ (committing idle).commit ≠ none :=
  ⟨listening_of _ (by decide +kernel), by decide +kernel⟩

theorem witness_PwriteWrites :
    ListeningAt heating ∧ TableLaw heating ∧ heating.commit = none ∧
    ValidFields { (job4711 0 false).toProfileFields with key := 1 } ∧ findProfile heating.profiles 1 = none ∧
    heating.profiles.length < 48 :=
  ⟨listening_heating, lawful_heating.table, by decide +kernel,
    { valid_4711_unbound.toValidFields with key := by decide +kernel }, by decide +kernel⟩

theorem witness_PwriteWrites_bound :
    findProfile heating.profiles 4711 = some (job4711 2 false) ∧ (job4711 2 false).retirePending = false ∧
    1 ≤ (job4711 2 false).bindCount := by decide +kernel

theorem witness_PwriteWrites_unbound_and_retiring :
    findProfile idle.profiles 4711 = some (job4711 0 false) ∧
    findProfile [job4711 1 true] 4711 = some (job4711 1 true) := by decide +kernel

/-- Profile 4711 with a width below its range. -/
def narrow : ProfileFields := { (job4711 0 false).toProfileFields with width := 200 }

theorem witness_PwriteWrites_bad_field :
    Encodable narrow ∧ ¬FieldGood narrow 2 ∧ (∀ j < 2, FieldGood narrow j) ∧
    (after (.pwrite (pwriteBody narrow)) idle).port.answer = frameOf 1 0x83 [3, 2] :=
  ⟨⟨by decide +kernel, by decide +kernel, by decide +kernel⟩, fun h => absurd (h.width rfl) (by decide +kernel),
    fun j hj => by
      constructor
      case key => exact fun _ => by decide +kernel
      all_goals intros; omega,
    by decide +kernel⟩

/-- A full table of 48 records. -/
def fullTable : List Profile := (List.range 48).map fun i => { job3020 0 with key := i + 1, slot := i }

theorem witness_PwriteWrites_full :
    TableLaw { idle with profiles := fullTable } ∧ findProfile fullTable 4711 = none ∧ fullTable.length = 48 :=
  ⟨⟨by decide +kernel, by decide +kernel, by decide +kernel, by decide +kernel⟩, by decide +kernel⟩

theorem witness_PtrimTrims :
    ListeningAt heating ∧ TableLaw heating ∧ QueueLaw heating ∧ heating.commit = none ∧
    findProfile heating.profiles (0x0B * 256 + 0xCC) = some (job3020 1) ∧ ValidProfile (job3020 1) ∧
    (heating.lane .two).key = some (job3020 1).key ∧ (heating.lane .two).target = some 450 :=
  ⟨listening_heating, lawful_heating.table, lawful_heating.queue, rfl, by decide +kernel, valid_3020 1, by decide +kernel⟩

theorem witness_PtrimTrims_items :
    Trims (job3020 1).toProfileFields [1, 2, 0, 130]
      { (job3020 1).toProfileFields with couples := [⟨1, 120, 350⟩, ⟨2, 130, 350⟩] } ∧
    Trims (job3020 1).toProfileFields [6, 3, 0x02, 0xBC]
      { (job3020 1).toProfileFields with
        bands := [⟨300, 190, 210, 200, 110, 28⟩, ⟨500, 210, 235, 220, 120, 28⟩, ⟨700, 230, 260, 240, 130, 26⟩] } ∧
    Trims (job3020 1).toProfileFields [4, 2] { (job3020 1).toProfileFields with couples := [⟨1, 120, 350⟩] } ∧
    Trims (job3020 1).toProfileFields [9] (job3020 1).toProfileFields :=
  ⟨.coverage 2 0 130 (by decide +kernel) (by decide +kernel),
    .bound 3 0x02 0xBC ⟨650, 230, 260, 240, 130, 26⟩ (by decide +kernel) rfl (by decide +kernel) (by decide +kernel)
      (by decide +kernel),
    .remove 2 (by decide +kernel), .clear⟩

/-- Two items together: couple 1 leaves, and then couple 2, so that none is left. -/
theorem witness_PtrimTrims_none_left :
    TrimsAll (job3020 1).toProfileFields [[4, 1], [4, 2]] { (job3020 1).toProfileFields with couples := [] } ∧
    LastOfKind 4 [[4, 1], [4, 2]] 2 ∧
    (after (.ptrim ([0x0B, 0xCC, 0, 0, 2, 4, 1, 4, 2])) idle).port.answer = frameOf 1 0x84 [3, 2] :=
  ⟨.item (.remove 1 (by decide +kernel)) (.item (.remove 2 (by decide +kernel)) (.done _)),
    ⟨by decide, ⟨[4, 2], rfl, rfl⟩, fun _ _ hj h => nomatch h.symm.trans (List.getElem?_eq_none hj)⟩,
    by decide +kernel⟩

/-- Bounds that do not increase: band 1 set to the bound of band 2. -/
theorem witness_PtrimTrims_bounds :
    ∃ f, TrimsAll (job3020 1).toProfileFields [[7, 20], [6, 1, 0x01, 0xF4]] f ∧ f.couples ≠ [] ∧
      ¬f.bands.Pairwise (fun a b => a.bound < b.bound) ∧ LastOfKind 6 [[7, 20], [6, 1, 0x01, 0xF4]] 2 ∧
      (after (.ptrim ([0x0B, 0xCC, 0, 0, 2, 7, 20, 6, 1, 0x01, 0xF4])) idle).port.answer = frameOf 1 0x84 [3, 2] :=
  ⟨_, .item (.tolerance 20 (by decide) (by decide))
      (.item (.bound 1 0x01 0xF4 ⟨300, 190, 210, 200, 110, 28⟩ (by decide +kernel) rfl (by decide +kernel)
        (by decide +kernel) (by decide +kernel)) (.done _)),
    by decide +kernel, by decide +kernel,
    ⟨by decide, ⟨_, rfl, rfl⟩, fun _ _ hj h => nomatch h.symm.trans (List.getElem?_eq_none hj)⟩,
    by decide +kernel⟩

/-- An invalid item after a valid one: a tolerance of 4. -/
theorem witness_PtrimTrims_bad_item :
    TrimsAll (job3020 1).toProfileFields [[9]] (job3020 1).toProfileFields ∧ ItemShape [7, 4] ∧
    (∀ g, ¬Trims (job3020 1).toProfileFields [7, 4] g) ∧
    (after (.ptrim ([0x0B, 0xCC, 0, 0, 2, 9, 7, 4])) idle).port.answer = frameOf 1 0x84 [3, 2] :=
  ⟨.item .clear (.done _), ⟨7, [4], rfl, by decide, rfl⟩, fun g h => by
      generalize hb : ([7, 4] : List Byte) = b at h
      cases h with
      | tolerance v h5 =>
        obtain rfl : 4 = v := by simpa using hb
        exact absurd h5 (by decide)
      | _ => simp at hb,
    by decide +kernel⟩

/-- Chapter 3: a trim of the maximum below g lowers g, starts the grace and leaves the lane RUNNING above crawl. -/
theorem witness_PtrimTrims_lowered :
    (heating.lane .one).key = some 4711 ∧ 350 < (heating.lane .one).g ∧
    ((after (.ptrim [0x12, 0x67, 0, 0, 3, 6, 1, 0, 250, 6, 2, 1, 44, 6, 3, 1, 94]) heating).lane .one).g = 350 ∧
    ((after (.ptrim [0x12, 0x67, 0, 0, 3, 6, 1, 0, 250, 6, 2, 1, 44, 6, 3, 1, 94]) heating).lane .one).graceMs = 10000 ∧
    ((after (.ptrim [0x12, 0x67, 0, 0, 3, 6, 1, 0, 250, 6, 2, 1, 44, 6, 3, 1, 94]) heating).lane .one).state = .running := by
  decide +kernel

theorem witness_PretireRetires :
    findProfile idle.profiles 4711 = some (job4711 0 false) ∧ findProfile heating.profiles 4711 = some (job4711 2 false) ∧
    findProfile heating.profiles 1 = none := by decide +kernel

/-! ### The lane requests -/

theorem witness_LthrdThreads :
    ListeningAt heating ∧ findProfile heating.profiles (0x0B * 256 + 0xCC) = some (job3020 1) ∧
    (heating.lane .four).state = .unthreaded ∧ heating.dryer.state = .heating ∧
    (job3020 1).retirePending = false ∧ (heating.lane .one).state ≠ .unthreaded ∧
    (idle.lane .four).state = .unthreaded ∧ idle.dryer.state = .off :=
  ⟨listening_heating, by decide +kernel⟩

theorem witness_LunthUnthreads :
    ListeningAt heating ∧ Lawful heating ∧ (heating.lane .two).key = some 3020 ∧
    findProfile heating.profiles 3020 = some (job3020 1) ∧ (heating.lane .two).state ≠ .running ∧
    (heating.lane .two).residual = none ∧ (heating.lane .four).state = .unthreaded ∧
    (heating.lane .three).residual ≠ none :=
  ⟨listening_heating, lawful_heating, by decide +kernel⟩

theorem witness_LunthUnthreads_removal :
    ListeningAt retiring ∧ Lawful retiring ∧ (retiring.lane .two).key = some 3020 ∧
    findProfile retiring.profiles 3020 = some { job3020 1 with retirePending := true } ∧
    ((after (.lunth [2]) retiring).commit.map (·.remarked)) = some 2 :=
  ⟨listening_of _ (by decide +kernel), lawful_retiring, by decide +kernel⟩

theorem witness_LspdTakenAtOnce :
    250 = min ((0 * 256 + (250 : Byte).toNat) / 5 * 5) (maxSpeed (heating.bandsOf .one)) ∧ ListeningAt heating ∧
    (heating.lane .one).state.moving = true ∧ heating.dryer.state = .heating ∧ 250 ≤ (heating.lane .one).g :=
  ⟨by decide +kernel, listening_heating, by decide +kernel⟩

theorem witness_LspdQueues :
    450 = min (((1 : Byte).toNat * 256 + (198 : Byte).toNat) / 5 * 5) (maxSpeed (heating.bandsOf .one)) ∧
    ListeningAt heating ∧ (heating.lane .one).state.moving = true ∧ (heating.lane .one).g < 450 ∧
    heating.cal.values.crawl < 450 ∧ heating.heartbeat.silent = false ∧
    450 ≤ boundOf (heating.bandsOf .one) (heating.lane .one).g ∧
    { heating with heartbeat := ⟨true, 0, true⟩ }.heartbeat.silent = true :=
  ⟨by decide +kernel, listening_heating, by decide +kernel⟩

theorem witness_LspdQueues_refused :
    (heating.lane .three).state = .broke ∧ (heating.lane .four).state = .unthreaded ∧
    ListeningAt { heating with dryer := { heating.dryer with state := .safeHold } } ∧
    (heating.lane .two).state = .ready ∧ 4 < (5 : Byte).toNat :=
  ⟨by decide +kernel, by decide +kernel, listening_of _ (by decide +kernel), by decide +kernel⟩

theorem witness_LclrClears :
    ListeningAt heating ∧ Lawful heating ∧ (heating.lane .three).state = .broke ∧
    (heating.lane .one).state ≠ .broke ∧ (heating.lane .one).state ≠ .broken :=
  ⟨listening_heating, lawful_heating, by decide +kernel⟩

/-- The heating part with its hold on lane 3 run out. -/
def broken : State := after (.residualHoldExpiry .three) heating

theorem witness_LclrClears_broken :
    (broken.lane .three).state = .broken ∧ broken.inputActive .three = false ∧
    (after (.breakInputChange .three false) broken).inputActive .three = true := by decide +kernel

/-! ### The dryer and the readings -/

theorem witness_DstartPurges :
    ListeningAt idle ∧ idle.dryer.state = .off ∧ idle.cal.valid = true ∧ State.reset.cal.valid = false ∧
    heating.dryer.state ≠ .off ∧ heating.dryer.state ≠ .safeHold :=
  ⟨listening_idle, by decide +kernel⟩

theorem witness_DstopCools :
    ListeningAt (inState .purge) ∧ (inState .purge).dryer.state = .purge ∧
    heating.dryer.state = .heating ∧ (heating.lane .one).state = .running ∧ idle.dryer.state = .off ∧
    (inState .heating).dryer.state = .heating ∧ (∀ n, ((inState .heating).lane n).state ≠ .running) :=
  ⟨listening_of _ (by decide +kernel), by decide +kernel, by decide +kernel, by decide +kernel, by decide +kernel, by decide +kernel,
    each (by decide +kernel) (by decide +kernel) (by decide +kernel) (by decide +kernel)⟩

theorem witness_RdgTakes :
    ListeningAt heating ∧
    checkPairs 1 [] (readPairs 2 [1, 0, 200, 21, 0, 5]) = .ok [(.zone .one .z1, 200), (.analyzer, 5)] ∧
    checkPairs 1 [] (readPairs 2 [1, 0, 200, 1, 0, 5]) = .error 2 ∧
    checkPairs 1 [] (readPairs 1 [23, 0, 0]) = .error 1 ∧ ([1, 0] : List Byte).length ≠ 3 * 1 ∧ 22 < (23 : Byte).toNat :=
  ⟨listening_heating, by decide +kernel⟩

/-- A part in COOLDOWN whose last zone reports 60 °C: the housing is cool. -/
def nearlyCool : State :=
  { inState .cooldown with
    readings :=
      ⟨⟨readings 40 40 40, readings 40 40 40, readings 40 40 40, ⟨⟨fresh 40, fresh 40, ⟨none, false, 0⟩⟩, fresh 30, fresh 20⟩⟩,
        fresh 1, fresh 15⟩ }

theorem witness_RdgTakes_cooldown :
    ListeningAt nearlyCool ∧ nearlyCool.dryer.state = .cooldown ∧
    checkPairs 1 [] (readPairs 1 [18, 0, 60]) = .ok [(.zone .four .z3, 60)] ∧
    (after (.rdg [1, 18, 0, 60]) nearlyCool).dryer.state = .off ∧
    (after (.rdg [1, 18, 0, 250]) nearlyCool).dryer.state = .cooldown :=
  ⟨listening_of _ (by decide +kernel), by decide +kernel⟩

theorem witness_AnalyzerHighHolds_elsewhere :
    ListeningAt idle ∧ idle.dryer.state = .off ∧ idle.cal.values.analyzerFitted = true ∧
    (after (.rdg [1, 21, 0, 50]) idle).attention.latched = 8 :=
  ⟨listening_idle, by decide +kernel⟩

theorem witness_AnalyzerHighHolds :
    ListeningAt heating ∧ heating.cal.values.analyzerFitted = true ∧ heating.dryer.state = .heating ∧
    50 ≤ readSigned 0 50 :=
  ⟨listening_heating, by decide +kernel⟩

/-! ### Breaks -/

theorem witness_BreakTakesLane :
    Listening heating ∧ (heating.lane .one).state.moving = true ∧ (heating.lane .three).state.moving = false ∧
    heating.port.address ≠ 0 ∧ 4 < (5 : Byte).toNat ∧ (heating.breakInput .one).timer = none ∧
    ((after (.breakInputChange .one false) heating).breakInput .one).timer = some 20 :=
  ⟨listening_heating.toListening, by decide +kernel⟩

theorem witness_BreakInputsAndHorn :
    (after (.lbrk [1]) heating).powered = true ∧ (after (.lbrk [1]) heating).horn.cadence = some ⟨true, 1, 500⟩ ∧
    heating.horn.cadence = none := by decide +kernel

/-! ### Timers and windows -/

theorem witness_EncoderCounts :
    heating.powered = true ∧ 7 ≤ (heating.lane .one).encoder.sinceUs + 0 ∧
    ((after (.encoderEdge .one 0) heating).lane .one).encoder.sinceUs + 6 < 7 ∧
    (heating.lane .one).state.moving = true ∧ (heating.lane .three).state.moving = false := by decide +kernel

theorem witness_EncoderCounts_above_limit :
    400 + max 10 (400 / 20) < min 1500 ((70 + 71) * 60 / heating.cal.values.encoderPpm.get .one) ∧
    (heating.lane .one).graceMs = 0 ∧ (heating.lane .one).overCount = 0 := by decide +kernel

theorem witness_LaneTimers :
    (heating.lane .three).residual ≠ none ∧ (heating.lane .one).residual = none ∧
    ((withOne fun l => { l with lead := some ⟨3, .leading⟩ }).lane .one).isLeading = true ∧
    ((withOne fun l => { l with lead := some ⟨3, .leading⟩ }).lane .one).leadMs < heating.cal.values.leadTimeout * 1000 ∧
    (heating.lane .one).isLeading = false := by decide +kernel

theorem witness_EvaluationFigures :
    heating.powered = true ∧ heating.dryer.state = .heating ∧ idle.dryer.state ≠ .heating := by decide +kernel

theorem witness_EvaluationFigures_analyzer_step :
    Lawful excessive ∧ excessive.powered = true ∧ excessive.dryer.state = .heating ∧
    excessive.totalLoad ≤ excessive.capacity ∧ excessive.arbiter.excess = 2 ∧
    (∀ n, (excessive.lane n).hotWeb < 9) ∧ FirstToLower excessive .one ∧
    ((after .evaluation excessive).lane .one).g = 350 :=
  ⟨lawful_excessive, by decide +kernel, by decide +kernel, by decide +kernel, by decide +kernel,
    each (by decide +kernel) (by decide +kernel) (by decide +kernel) (by decide +kernel), first_to_lower rfl,
    by decide +kernel⟩

theorem witness_EvaluationFigures_hot_web :
    Lawful hotWebDue ∧ hotWebDue.totalLoad ≤ hotWebDue.capacity ∧ (hotWebDue.lane .one).state = .running ∧
    WebTooHot hotWebDue .one ∧ 9 ≤ (hotWebDue.lane .one).hotWeb ∧
    ((after .evaluation hotWebDue).lane .one).g = 350 ∧ ((after .evaluation hotWebDue).lane .one).hotWeb = 0 :=
  ⟨lawful_hotWebDue, by decide +kernel, by decide +kernel, ⟨by decide +kernel, 60, by decide +kernel, by decide +kernel⟩,
    by decide +kernel⟩

/-- The purging part with its accumulator one pulse below the target. -/
def nearlyPurged : State :=
  { inState .purge with exhaust := { idle.exhaust with accumulator := 1799, count := 1, zeroRun := 3 } }

theorem witness_FlowWindows :
    nearlyPurged.powered = true ∧ nearlyPurged.dryer.state = .purge ∧
    4 * cal.volume * cal.pulsesPerM3 ≤ nearlyPurged.exhaust.accumulator + nearlyPurged.exhaust.count ∧
    (after .flowWindow nearlyPurged).dryer.state = .heating ∧
    (after .flowWindow (inState .purge)).dryer.state = .purge := by decide +kernel

/-- The same part with lane 1 SUSPENDED and its input at the active level. -/
def nearlyPurgedSuspended : State :=
  (nearlyPurged.setLane .one { Lane.fresh with state := .suspended, key := some 4711, inBand := some false }).setBreakInput
    .one ⟨false, none⟩

theorem witness_FlowWindows_resumed :
    (nearlyPurgedSuspended.lane .one).state = .suspended ∧ nearlyPurgedSuspended.inputActive .one = true ∧
    (nearlyPurgedSuspended.breakInput .one).timer = none ∧
    ((after .flowWindow nearlyPurgedSuspended).lane .one).state = .threading ∧
    ((after .flowWindow nearlyPurgedSuspended).breakInput .one).timer = some 20 := by decide +kernel

theorem witness_FlowWindows_lost :
    { heating with exhaust := { heating.exhaust with zeroRun := 3 } }.exhaust.count = 0 ∧
    (after .flowWindow { heating with exhaust := { heating.exhaust with zeroRun := 3 } }).dryer.state = .safeHold := by
  decide +kernel

theorem witness_DryerTimeouts :
    (inState .purge).dryer.state = .purge ∧ (inState .cooldown).dryer.state = .cooldown ∧
    heating.dryer.state ≠ .purge ∧ heating.dryer.state ≠ .cooldown := by decide +kernel

theorem witness_ReadingGoesStale :
    heating.powered = true ∧ (heating.reading (.zone .two .z1)).fresh = true ∧
    heating.profileOf .two = some (job3020 1) ∧ (heating.reading .analyzer).fresh = true ∧
    (idle.reading .analyzer).fresh = false := by decide +kernel

/-! ### Attention and heartbeat -/

theorem witness_BeatArms : Listening heating ∧ heating.port.address ≠ 0 ∧ ([0] : List Byte) ≠ [] :=
  ⟨listening_heating.toListening, by decide +kernel⟩

theorem witness_AtclrAndAtmsk : ListeningAt heating ∧ (3 : Byte).toNat < 4 ∧ 4 ≤ (4 : Byte).toNat :=
  ⟨listening_heating, by decide +kernel⟩

theorem witness_MasterSilentBegins :
    Lawful heating ∧ (after (.beat true []) heating).heartbeat = ⟨true, 2000, false⟩ ∧ heating.heartbeat.armed = false :=
  ⟨lawful_heating, by decide +kernel⟩

/-! ### The line link -/

theorem witness_FramesNotTaken :
    Listening idle ∧ idle.port.address ≠ 0 ∧ (0x3F : Byte) ∉ requestCodes ∧
    (2 : Byte) ≠ 0 ∧ (2 : Byte).toNat ≠ idle.port.address.toNat ∧ (0x03 : Byte) ≠ 0x18 ∧ (0x03 : Byte) ≠ 0x0C :=
  ⟨listening_idle.toListening, by decide +kernel⟩

theorem witness_DiscardedFrames :
    Listening idle ∧ startsFrame (plookChars.take 2 ++ [good 97 false]) = true ∧
    partialFrame (plookChars.take 2) = true ∧ (good 97 false).bad = false ∧ (plookChars.take 2).length = 2 ∧
    { good 97 false with stop := false }.bad = true ∧ 96 < (good 97 false).data.toNat :=
  ⟨listening_idle.toListening, by decide +kernel⟩

theorem witness_DiscardedFrames_check :
    startsFrame (plookChars.take 6 ++ [good 0 false]) = true ∧ partialFrame (plookChars.take 6) = true ∧
    (plookChars.take 6).length = 4 + ((dataOf (plookChars.take 6)).getD 2 0).toNat ∧
    frameGood (dataOf (plookChars.take 6 ++ [good 0 false])) = false ∧
    startsFrame plookChars = true ∧ wholeGoodFrame plookChars = true ∧
    (good 0 false).afterGap = false ∧ idle.port.idleMs < gapMs idle.port.rate := by decide +kernel

theorem witness_AnswerOnTheLine :
    (answeringPort false idle).port.state = .answer ∧ (answeringPort false idle).port.driving = false ∧
    (answeringPort false idle).port.idleMs < gapMs idle.port.rate ∧ (answeringPort false idle).resetAccepted = false ∧
    (answeringPort true idle).port.driving = true ∧ (answeringPort true idle).port.answer[1]? = some 0x42 ∧
    idle.port.state ≠ .answer := by decide +kernel

/-- Chapter 8: a character heard before the answer to an SRST has begun is a collision; the part is deaf for the rest. -/
theorem test_srst_answer_meets_a_busy_line :
    (after (.frameDiscard [good 1 true]) (after (.srst []) idle)).port.collisions = 1 ∧
    (after (.frameDiscard [good 1 true]) (after (.srst []) idle)).port.discarded = 0 ∧
    (after (.crd []) (after (.srst []) idle)).port.collisions = 1 := by decide +kernel

theorem witness_LinkFreeInput :
    (after .linkFree heating).powered = true ∧ (after .linkFree heating).port.held = true ∧
    heating.port.held = false := by decide +kernel

/-! ### The store, the calibration, reset and power -/

theorem witness_ScommitSnapshots :
    ListeningAt heating ∧ TableLaw heating ∧ heating.commit = none ∧ heating.marks = 0 ∧
    (after (.pretire [0x12, 0x67]) idle).marks ≠ 0 ∧ (after (.pretire [0x12, 0x67]) idle).commit = none :=
  ⟨listening_heating, lawful_heating.table, by decide +kernel⟩

theorem witness_SlotWriteEnds :
    (committing idle).powered = true ∧ (committing idle).commit = some ⟨[(1, none)], none, 0, 24⟩ ∧
    { idle with commit := some ⟨[], some cal.toValues, 0, 0⟩ }.commit = some ⟨[], some cal.toValues, 0, 0⟩ ∧
    idle.commit = none := by decide +kernel

theorem witness_CwrTakes :
    ListeningAt idle ∧ idle.commit = none ∧ cal.bytes.length = 34 ∧ idle.dryer.state = .off ∧
    readCalibration cal.bytes = some cal.toValues ∧ firstFailed (calibrationTests cal.toValues) = none ∧
    firstFailed (calibrationTests (readValues 29 1 (List.replicate 34 0))) = some 1 ∧ heating.dryer.state ≠ .off :=
  ⟨listening_idle, by decide +kernel⟩

/-- A part in OFF whose CHILL WATER reading is 4 s old. -/
def aged : State := idle.setReading .chillWater ⟨some 15, true, 4000⟩

theorem witness_CwrTakes_stale :
    ListeningAt aged ∧ aged.commit = none ∧ aged.dryer.state = .off ∧
    firstFailed (calibrationTests { cal with staleAge := 3 }.toValues) = none ∧
    (after (.cwr { cal with staleAge := 3 }.bytes) aged).reading .chillWater = ⟨some 15, false, 4000⟩ ∧
    (after (.cwr { cal with staleAge := 3 }.bytes) aged).attention.latched = 0x1000 ∧
    (after (.cwr { cal with staleAge := 3 }.bytes) aged).attention.staleCommon = true :=
  ⟨listening_of _ (by decide +kernel), by decide +kernel⟩

/-- A part whose station reset is due. -/
def resetAwaited : State := { idle with resetAccepted := true }

theorem witness_SrstAndStationReset :
    ListeningAt idle ∧ idle.dryer.state = .off ∧ heating.dryer.state ≠ .off ∧ resetAwaited.powered = true ∧
    resetAwaited.resetAccepted = true ∧ resetAwaited.port.state ≠ .answer ∧ resetAwaited.commit = none ∧
    resetAwaited.store.slots.length = 48 ∧ idle.resetAccepted = false :=
  ⟨listening_idle, by decide +kernel⟩

theorem witness_PowerLossAndOn :
    heating.powered = true ∧ (committing idle).commit ≠ none ∧ (after .powerLoss heating).powered = false ∧
    (after .powerLoss heating).store.slots.length = 48 := by decide +kernel

end Sys2Proof.Tests
end

section
/-! PROOF. The profile table as a list: what insertion, replacement and removal of a record do to look-ups, to the order
of the keys and to the slot indices (R7, R12, R17, R18). -/

namespace Sys2Proof.Machine

/-! ## Looking up -/

theorem findProfile_mem {ps : List Profile} {k : Nat} {p : Profile} (h : findProfile ps k = some p) : p ∈ ps :=
  List.mem_of_find?_eq_some h

theorem findProfile_key {ps : List Profile} {k : Nat} {p : Profile} (h : findProfile ps k = some p) : p.key = k := by
  simpa using List.find?_some h

theorem findProfile_self {ps : List Profile} {k : Nat} {p : Profile} (h : findProfile ps k = some p) :
    findProfile ps p.key = some p := by rwa [findProfile_key h]

theorem findProfile_eq_none {ps : List Profile} {k : Nat} : findProfile ps k = none ↔ ∀ p ∈ ps, p.key ≠ k := by
  simp [findProfile]

@[simp] theorem findProfile_nil (k : Nat) : findProfile [] k = none := rfl

theorem findProfile_cons (p : Profile) (ps : List Profile) (k : Nat) :
    findProfile (p :: ps) k = if p.key = k then some p else findProfile ps k := by
  by_cases h : p.key = k <;> simp [findProfile, h]

/-- In a table of ascending keys a key names one record. -/
theorem eq_of_key_eq {ps : List Profile} (h : ps.Pairwise fun p q => p.key < q.key) {p q : Profile} (hp : p ∈ ps)
    (hq : q ∈ ps) (hk : p.key = q.key) : p = q := by
  induction ps with
  | nil => simp at hp
  | cons r rs ih =>
    obtain ⟨hr, hrs⟩ := List.pairwise_cons.1 h
    rcases List.mem_cons.1 hp with rfl | hp' <;> rcases List.mem_cons.1 hq with rfl | hq'
    · rfl
    · exact absurd hk (hr q hq').ne
    · exact absurd hk (hr p hp').ne'
    · exact ih hrs hp' hq'

/-! ## Insertion -/

theorem insertProfile_perm (p : Profile) (ps : List Profile) : (insertProfile p ps).Perm (p :: ps) := by
  induction ps with
  | nil => exact .refl _
  | cons q qs ih =>
    unfold insertProfile
    split
    · exact .refl _
    · exact (ih.cons q).trans (.swap p q qs)

theorem mem_insertProfile {p q : Profile} {ps : List Profile} : q ∈ insertProfile p ps ↔ q = p ∨ q ∈ ps := by
  rw [(insertProfile_perm p ps).mem_iff, List.mem_cons]

theorem insertProfile_ascending {p : Profile} {ps : List Profile} (h : ps.Pairwise fun p q => p.key < q.key)
    (hn : findProfile ps p.key = none) : (insertProfile p ps).Pairwise fun p q => p.key < q.key := by
  induction ps with
  | nil => exact List.pairwise_singleton ..
  | cons q qs ih =>
    obtain ⟨hq, hqs⟩ := List.pairwise_cons.1 h
    have hne := findProfile_eq_none.1 hn
    unfold insertProfile
    split
    next hlt => exact List.pairwise_cons.2 ⟨fun r hr => (List.mem_cons.1 hr).elim (· ▸ hlt)
      fun hr => hlt.trans (hq r hr), h⟩
    next hge =>
      have hlt : q.key < p.key := by have := hne q (by simp); omega
      refine List.pairwise_cons.2 ⟨fun r hr => ?_, ih hqs (findProfile_eq_none.2 fun r hr => hne r (by simp [hr]))⟩
      exact (mem_insertProfile.1 hr).elim (· ▸ hlt) (hq r)

theorem findProfile_insertProfile_same {p : Profile} {ps : List Profile} (hn : findProfile ps p.key = none) :
    findProfile (insertProfile p ps) p.key = some p := by
  induction ps with
  | nil => simp [insertProfile, findProfile_cons]
  | cons q qs ih =>
    have hq : q.key ≠ p.key := findProfile_eq_none.1 hn q (by simp)
    rw [findProfile_cons, if_neg hq] at hn
    unfold insertProfile
    split <;> simp [findProfile_cons, hq, ih hn]

theorem findProfile_insertProfile_other {p : Profile} {k : Nat} (ps : List Profile) (hk : k ≠ p.key) :
    findProfile (insertProfile p ps) k = findProfile ps k := by
  induction ps with
  | nil => simp [insertProfile, findProfile_cons, hk.symm]
  | cons q qs ih =>
    unfold insertProfile
    split <;> simp [findProfile_cons, hk.symm, ih]

/-! ## Replacement -/

theorem mem_replaceProfile {ps : List Profile} {p q : Profile} (h : q ∈ replaceProfile ps p) :
    q = p ∨ q ∈ ps ∧ q.key ≠ p.key := by
  obtain ⟨r, hr, rfl⟩ := List.mem_map.1 h
  by_cases hk : r.key = p.key <;> simp [hk, hr]

theorem findProfile_replaceProfile_same {ps : List Profile} {p : Profile} (h : (findProfile ps p.key).isSome) :
    findProfile (replaceProfile ps p) p.key = some p := by
  induction ps with
  | nil => simp at h
  | cons q qs ih =>
    rw [findProfile_cons] at h
    by_cases hq : q.key = p.key <;> simp_all [replaceProfile, findProfile_cons]

theorem findProfile_replaceProfile_other {p : Profile} {k : Nat} (ps : List Profile) (hk : k ≠ p.key) :
    findProfile (replaceProfile ps p) k = findProfile ps k := by
  induction ps with
  | nil => rfl
  | cons q qs ih =>
    have ih : findProfile (qs.map fun q => if q.key = p.key then p else q) k = findProfile qs k := ih
    by_cases hq : q.key = p.key <;> simp [replaceProfile, findProfile_cons, hq, hk.symm, ih]

theorem replaceProfile_keys (ps : List Profile) (p : Profile) :
    (replaceProfile ps p).map (·.key) = ps.map (·.key) := by
  simp only [replaceProfile, List.map_map]
  refine List.map_congr_left fun q _ => ?_
  by_cases h : q.key = p.key <;> simp [h]

theorem replaceProfile_ascending {ps : List Profile} (p : Profile) (h : ps.Pairwise fun p q => p.key < q.key) :
    (replaceProfile ps p).Pairwise fun p q => p.key < q.key := by
  have hk : (ps.map (·.key)).Pairwise (· < ·) := List.pairwise_map.2 h
  exact List.pairwise_map.1 (replaceProfile_keys ps p ▸ hk)

/-- A record that takes the place of one with its key and its slot index leaves every slot index where it is. -/
theorem replaceProfile_slots {ps : List Profile} (h : ps.Pairwise fun p q => p.key < q.key) {p p' : Profile}
    (hp : findProfile ps p'.key = some p) (hs : p'.slot = p.slot) :
    (replaceProfile ps p').map (·.slot) = ps.map (·.slot) := by
  simp only [replaceProfile, List.map_map]
  refine List.map_congr_left fun q hq => ?_
  by_cases hk : q.key = p'.key
  · have : q = p := eq_of_key_eq h hq (findProfile_mem hp) (hk.trans (findProfile_key hp).symm)
    subst this
    simp [hk, hs]
  · simp [hk]

/-! ## Removal -/

theorem mem_removeProfile {ps : List Profile} {k : Nat} {q : Profile} :
    q ∈ removeProfile ps k ↔ q ∈ ps ∧ q.key ≠ k := by simp [removeProfile]

theorem findProfile_removeProfile_same (ps : List Profile) (k : Nat) : findProfile (removeProfile ps k) k = none :=
  findProfile_eq_none.2 fun _ hq => (mem_removeProfile.1 hq).2

theorem findProfile_removeProfile_other {j k : Nat} (ps : List Profile) (h : j ≠ k) :
    findProfile (removeProfile ps k) j = findProfile ps j := by
  induction ps with
  | nil => rfl
  | cons q qs ih =>
    by_cases hq : q.key = k
    · have hr : removeProfile (q :: qs) k = removeProfile qs k := by simp [removeProfile, hq]
      rw [hr, ih, findProfile_cons, if_neg (hq ▸ h.symm)]
    · have hr : removeProfile (q :: qs) k = q :: removeProfile qs k := by simp [removeProfile, hq]
      rw [hr, findProfile_cons, findProfile_cons, ih]

/-- Removal of a record takes one record out of a table of ascending keys. -/
theorem removeProfile_length {ps : List Profile} (h : ps.Pairwise fun p q => p.key < q.key) {k : Nat} {p : Profile}
    (hp : findProfile ps k = some p) : (removeProfile ps k).length + 1 = ps.length := by
  induction ps with
  | nil => simp at hp
  | cons q qs ih =>
    obtain ⟨hq, hqs⟩ := List.pairwise_cons.1 h
    rw [findProfile_cons] at hp
    by_cases hk : q.key = k
    · have hkeep : removeProfile qs k = qs :=
        List.filter_eq_self.2 fun r hr => by have := hq r hr; simp only [bne_iff_ne]; omega
      have hr : removeProfile (q :: qs) k = removeProfile qs k := by simp [removeProfile, hk]
      rw [hr, hkeep, List.length_cons]
    · have hr : removeProfile (q :: qs) k = q :: removeProfile qs k := by simp [removeProfile, hk]
      rw [hr, List.length_cons, List.length_cons, ih hqs (by simpa [hk] using hp)]

/-! ## The lowest free slot index -/

/-- A table of fewer than 48 records leaves a slot index free; the lowest one is taken (R17). -/
theorem lowestFreeSlot_spec {ps : List Profile} (h : ps.length < 48) :
    lowestFreeSlot ps < 48 ∧ (∀ p ∈ ps, p.slot ≠ lowestFreeSlot ps) ∧
      ∀ i < lowestFreeSlot ps, ∃ p ∈ ps, p.slot = i := by
  unfold lowestFreeSlot
  cases hf : (List.range 48).find? fun i => !(ps.any (·.slot == i)) with
  | none =>
    have hall : List.range 48 ⊆ ps.map (·.slot) := fun i hi => by
      simpa using List.find?_eq_none.1 hf i hi
    have := (List.nodup_range.subperm hall).length_le
    simp at this
    omega
  | some i =>
    obtain ⟨hfree, hlt, hbelow⟩ := List.find?_range_eq_some.1 hf
    simp at hfree hbelow hlt
    exact ⟨hlt, hfree, hbelow⟩

end Sys2Proof.Machine
end

section
/-! PROOF. The fields of a profile: what the field tests of PWRITE find (R16), how a body spells the fields (R155), how
couples are filed (R2), and what a trim item leaves of a working copy (R20). -/

namespace Sys2Proof.Machine

@[simp] theorem within_eq_true {lo hi v : Nat} : within lo hi v = true ↔ lo ≤ v ∧ v ≤ hi := by simp [within]

/-! ## The first test that fails -/

theorem firstFailed_eq_none {l : List (Nat × Bool)} : firstFailed l = none ↔ ∀ i, (i, false) ∉ l := by
  simp [firstFailed]

/-- In tests of ascending index the first that fails is the one below which none fails. -/
theorem firstFailed_eq_some {l : List (Nat × Bool)} (hs : l.Pairwise fun t u => t.1 < u.1) {i : Nat}
    (hi : (i, false) ∈ l) (hlow : ∀ j < i, (j, false) ∉ l) : firstFailed l = some i := by
  induction l with
  | nil => simp at hi
  | cons t ts ih =>
    obtain ⟨j, b⟩ := t
    obtain ⟨ht, hts⟩ := List.pairwise_cons.1 hs
    rcases List.mem_cons.1 hi with h | h
    · cases h; simp [firstFailed]
    · have hb : b = true := by
        by_contra hb
        exact hlow j (ht _ h) (by simp [hb])
      have := ih hts h fun k hk hmem => hlow k hk (by simp [hmem])
      simpa [firstFailed, hb] using this

/-! ## Entries by position -/

theorem exists_getElem?_cons {α : Type} {x : α} {xs : List α} {P : Nat → α → Prop} :
    (∃ k a, (x :: xs)[k]? = some a ∧ P k a) ↔ P 0 x ∨ ∃ k a, xs[k]? = some a ∧ P (k + 1) a := by
  constructor
  · rintro ⟨_ | k, a, h, hp⟩
    · cases h; exact .inl hp
    · exact .inr ⟨k, a, by simpa using h, hp⟩
  · rintro (h | ⟨k, a, h, hp⟩)
    · exact ⟨0, x, rfl, h⟩
    · exact ⟨k + 1, a, by simpa using h, hp⟩

theorem forall_getElem?_cons_lt {α : Type} {x : α} {xs : List α} {k : Nat} {P : α → Prop} :
    (∀ m a, m < k + 1 → (x :: xs)[m]? = some a → P a) ↔ P x ∧ ∀ m a, m < k → xs[m]? = some a → P a := by
  constructor
  · exact fun h => ⟨h 0 x (Nat.succ_pos k) rfl, fun m a hm ha => h (m + 1) a (Nat.succ_lt_succ hm) (by simpa using ha)⟩
  · rintro ⟨hx, h⟩ (_ | m) a hm ha
    · cases ha; exact hx
    · exact h m a (Nat.lt_of_succ_lt_succ hm) (by simpa using ha)

/-! ## The tests of PWRITE -/

/-- The three tests of the k-th couple fail where its id is out of range or names one before it, and where its coverage or
its rate is out of range. -/
theorem mem_coupleTests {n : Nat} {seen : List Nat} {cs : List Couple} {i : Nat} :
    (i, false) ∈ coupleTests n seen cs ↔ ∃ k c, cs[k]? = some c ∧
      (i = 8 + 3 * (n + k) ∧ ¬((1 ≤ c.id ∧ c.id ≤ 8) ∧ c.id ∉ seen ∧ ∀ m d, m < k → cs[m]? = some d → d.id ≠ c.id) ∨
        i = 9 + 3 * (n + k) ∧ ¬c.coverage ≤ 400 ∨ i = 10 + 3 * (n + k) ∧ ¬c.rate ≤ 1000) := by
  induction cs generalizing n seen with
  | nil => simp [coupleTests]
  | cons x xs ih =>
    have htail (k : Nat) (c : Couple) : (c.id ∉ x.id :: seen ∧ ∀ m d, m < k → xs[m]? = some d → d.id ≠ c.id) ↔
        (c.id ∉ seen ∧ ∀ m d, m < k + 1 → (x :: xs)[m]? = some d → d.id ≠ c.id) := by
      rw [forall_getElem?_cons_lt, List.mem_cons, not_or, and_assoc, and_left_comm, ne_comm]
    rw [exists_getElem?_cons]
    simp only [← htail, coupleTests, List.mem_cons, ih, Prod.mk.injEq, Nat.add_right_comm n 1, ← Nat.add_assoc n,
      @eq_comm Bool false, ← Bool.not_eq_true, Bool.and_eq_true, within_eq_true]
    simp [or_assoc]

/-- The bound of the band before the k-th, or a given one before the first. -/
def boundBefore (before : Nat) (bs : List Band) (k : Nat) : Nat := (before :: bs.map (·.bound)).getD k 0

/-- The six tests of the k-th band fail where its field is out of range; the bound also where the one before it is as
high. -/
theorem mem_bandTests {n before : Nat} {bs : List Band} {i : Nat} :
    (i, false) ∈ bandTests n before bs ↔ ∃ k b, bs[k]? = some b ∧
      (i = 32 + 6 * (n + k) ∧
          ¬(((60 ≤ b.bound ∧ b.bound ≤ 1200) ∧ b.bound % 5 = 0) ∧ boundBefore before bs k < b.bound) ∨
        i = 33 + 6 * (n + k) ∧ ¬(100 ≤ b.z1 ∧ b.z1 ≤ 400) ∨ i = 34 + 6 * (n + k) ∧ ¬(100 ≤ b.z2 ∧ b.z2 ≤ 400) ∨
        i = 35 + 6 * (n + k) ∧ ¬(100 ≤ b.z3 ∧ b.z3 ≤ 400) ∨
        i = 36 + 6 * (n + k) ∧ ¬(80 ≤ b.webExitMin ∧ b.webExitMin ≤ 180) ∨
        i = 37 + 6 * (n + k) ∧ ¬(15 ≤ b.chillExitMax ∧ b.chillExitMax ≤ 45)) := by
  induction bs generalizing n before with
  | nil => simp [bandTests]
  | cons b bs ih =>
    have hhead : boundBefore before (b :: bs) 0 = before := rfl
    have htail (k : Nat) : boundBefore before (b :: bs) (k + 1) = boundBefore b.bound bs k := by simp [boundBefore]
    rw [exists_getElem?_cons, hhead]
    simp only [htail, bandTests, List.mem_cons, ih, Prod.mk.injEq, Nat.add_right_comm n 1, ← Nat.add_assoc n,
      @eq_comm Bool false, ← Bool.not_eq_true, Bool.and_eq_true, within_eq_true, beq_iff_eq, decide_eq_true_eq,
      Nat.add_zero, or_assoc]

theorem boundBefore_lt {bs : List Band} {k v : Nat} (hv : 0 < v) :
    boundBefore 0 bs k < v ↔ ∀ a, 1 ≤ k → bs[k - 1]? = some a → a.bound < v := by
  cases k with
  | zero => simpa [boundBefore] using hv
  | succ k => cases h : bs[k]? <;> simp [boundBefore, h, hv]

/-- For counts that are in range a field test fails exactly where the field of its index is out of range. -/
theorem mem_tests {f : ProfileFields} (hc : 1 ≤ f.couples.length ∧ f.couples.length ≤ 8)
    (hb : 1 ≤ f.bands.length ∧ f.bands.length ≤ 6) {i : Nat} : (i, false) ∈ f.tests ↔ ¬FieldGood f i := by
  have htests : (i, false) ∈ f.tests ↔
      i = 1 ∧ ¬(1 ≤ f.key ∧ f.key ≤ 65535) ∨ i = 2 ∧ ¬(300 ≤ f.width ∧ f.width ≤ 1100) ∨
        i = 3 ∧ ¬(5 ≤ f.tolerance ∧ f.tolerance ≤ 40) ∨
        i = 4 ∧ ¬(∀ v, f.override = some v → 5 ≤ v ∧ v ≤ 120) ∨
        (i, false) ∈ coupleTests 0 [] f.couples ∨ (i, false) ∈ bandTests 0 0 f.bands := by
    unfold ProfileFields.tests
    cases f.override <;>
      simp only [List.cons_append, List.nil_append, List.mem_cons, List.mem_append, Prod.mk.injEq,
        @eq_comm Bool false, ← Bool.not_eq_true, within_eq_true, hc, hb, and_self, not_true, and_false, false_or,
        reduceCtorEq, IsEmpty.forall_iff, implies_true, Option.some.injEq, forall_eq']
  rw [htests, mem_coupleTests, mem_bandTests]
  constructor
  · rintro (⟨rfl, h⟩ | ⟨rfl, h⟩ | ⟨rfl, h⟩ | ⟨rfl, h⟩ | ⟨k, c, hk, h⟩ | ⟨k, b, hk, h⟩) g
    · exact h (g.key rfl)
    · exact h (g.width rfl)
    · exact h (g.tolerance rfl)
    · exact h (g.override rfl)
    · simp only [Nat.zero_add] at h
      rcases h with ⟨rfl, h⟩ | ⟨rfl, h⟩ | ⟨rfl, h⟩
      · obtain ⟨h1, h8, hd⟩ := g.coupleId k c hk rfl
        exact h ⟨⟨h1, h8⟩, List.not_mem_nil, hd⟩
      · exact h (g.coverage k c hk rfl)
      · exact h (g.rate k c hk rfl)
    · simp only [Nat.zero_add] at h
      rcases h with ⟨rfl, h⟩ | ⟨rfl, h⟩ | ⟨rfl, h⟩ | ⟨rfl, h⟩ | ⟨rfl, h⟩ | ⟨rfl, h⟩
      · obtain ⟨hlo, hhi, h5, ha⟩ := g.bound k b hk rfl
        exact h ⟨⟨⟨hlo, hhi⟩, h5⟩, (boundBefore_lt (by omega)).2 ha⟩
      · exact h (g.z1 k b hk rfl)
      · exact h (g.z2 k b hk rfl)
      · exact h (g.z3 k b hk rfl)
      · exact h (g.webExitMin k b hk rfl)
      · exact h (g.chillExitMax k b hk rfl)
  · intro h
    by_contra hn
    simp only [not_or, not_exists] at hn
    obtain ⟨hkey, hwidth, htol, hov, hcs, hbs⟩ := hn
    have hcs (n c) (hn : f.couples[n]? = some c) := fun h => hcs n c ⟨hn, h⟩
    have hbs (n b) (hn : f.bands[n]? = some b) := fun h => hbs n b ⟨hn, h⟩
    simp only [imp_false, not_or, not_and_not_right, Nat.zero_add] at hkey hwidth htol hov hcs hbs
    exact h
      { key := hkey, width := hwidth, tolerance := htol, override := hov
        coupleId := fun n c hn hi => by
          obtain ⟨⟨h1, h8⟩, -, hd⟩ := (hcs n c hn).1 hi
          exact ⟨h1, h8, hd⟩
        coverage := fun n c hn hi => (hcs n c hn).2.1 hi
        rate := fun n c hn hi => (hcs n c hn).2.2 hi
        bound := fun n b hn hi => by
          obtain ⟨⟨⟨hlo, hhi⟩, h5⟩, ha⟩ := (hbs n b hn).1 hi
          exact ⟨hlo, hhi, h5, (boundBefore_lt (by omega)).1 ha⟩
        z1 := fun n b hn hi => (hbs n b hn).2.1 hi
        z2 := fun n b hn hi => (hbs n b hn).2.2.1 hi
        z3 := fun n b hn hi => (hbs n b hn).2.2.2.1 hi
        webExitMin := fun n b hn hi => (hbs n b hn).2.2.2.2.1 hi
        chillExitMax := fun n b hn hi => (hbs n b hn).2.2.2.2.2 hi }

/-- Fields are valid exactly where the counts and every field are in range. -/
theorem validFields_iff {f : ProfileFields} : ValidFields f ↔
    (1 ≤ f.couples.length ∧ f.couples.length ≤ 8) ∧ (1 ≤ f.bands.length ∧ f.bands.length ≤ 6) ∧
      ∀ i, FieldGood f i := by
  constructor
  · intro v
    have hc {n : Nat} {c : Couple} (h : f.couples[n]? = some c) := v.couples c (List.mem_of_getElem? h)
    have hb {n : Nat} {b : Band} (h : f.bands[n]? = some b) := v.bounds b (List.mem_of_getElem? h)
    have hz {n : Nat} {b : Band} (h : f.bands[n]? = some b) (z : ZoneId) := v.setpoints b (List.mem_of_getElem? h) z
    have he {n : Nat} {b : Band} (h : f.bands[n]? = some b) := v.exits b (List.mem_of_getElem? h)
    refine ⟨v.coupleCount, v.bandCount, fun i => ?_⟩
    exact
      { key := fun _ => v.key, width := fun _ => v.width, tolerance := fun _ => v.tolerance
        override := fun _ => v.override
        coupleId := fun n c h _ => ⟨(hc h).1, (hc h).2.1, fun m d hm hd => by
          obtain ⟨hml, rfl⟩ := List.getElem?_eq_some_iff.1 hd
          obtain ⟨hnl, rfl⟩ := List.getElem?_eq_some_iff.1 h
          exact List.pairwise_iff_getElem.1 v.couplesDiffer m n hml hnl hm⟩
        coverage := fun n c h _ => (hc h).2.2.1
        rate := fun n c h _ => (hc h).2.2.2
        bound := fun n b h _ => ⟨(hb h).1, (hb h).2.1, (hb h).2.2, fun a hn ha => by
          obtain ⟨hal, rfl⟩ := List.getElem?_eq_some_iff.1 ha
          obtain ⟨hnl, rfl⟩ := List.getElem?_eq_some_iff.1 h
          exact List.pairwise_iff_getElem.1 v.boundsAscend (n - 1) n hal hnl (by omega)⟩
        z1 := fun n b h _ => hz h .z1
        z2 := fun n b h _ => hz h .z2
        z3 := fun n b h _ => hz h .z3
        webExitMin := fun n b h _ => ⟨(he h).1, (he h).2.1⟩
        chillExitMax := fun n b h _ => (he h).2.2 }
  · rintro ⟨hcs, hbs, g⟩
    exact
      { key := (g 1).key rfl, width := (g 2).width rfl, tolerance := (g 3).tolerance rfl
        override := (g 4).override rfl, coupleCount := hcs, bandCount := hbs
        couples := fun c hc => by
          obtain ⟨n, hn⟩ := List.mem_iff_getElem?.1 hc
          obtain ⟨h1, h8, -⟩ := (g _).coupleId n c hn rfl
          exact ⟨h1, h8, (g _).coverage n c hn rfl, (g _).rate n c hn rfl⟩
        couplesDiffer := List.pairwise_iff_getElem.2 fun m n hm hn hlt =>
          ((g _).coupleId n _ (List.getElem?_eq_getElem hn) rfl).2.2 m _ hlt (List.getElem?_eq_getElem hm)
        bounds := fun b hb => by
          obtain ⟨n, hn⟩ := List.mem_iff_getElem?.1 hb
          obtain ⟨hlo, hhi, h5, -⟩ := (g _).bound n b hn rfl
          exact ⟨hlo, hhi, h5⟩
        setpoints := fun b hb z => by
          obtain ⟨n, hn⟩ := List.mem_iff_getElem?.1 hb
          cases z with
          | z1 => exact (g _).z1 n b hn rfl
          | z2 => exact (g _).z2 n b hn rfl
          | z3 => exact (g _).z3 n b hn rfl
        exits := fun b hb => by
          obtain ⟨n, hn⟩ := List.mem_iff_getElem?.1 hb
          obtain ⟨hlo, hhi⟩ := (g _).webExitMin n b hn rfl
          exact ⟨hlo, hhi, (g _).chillExitMax n b hn rfl⟩
        boundsAscend := by
          have : Trans (fun a b : Band => a.bound < b.bound) (fun a b : Band => a.bound < b.bound)
              (fun a b : Band => a.bound < b.bound) := ⟨Nat.lt_trans⟩
          refine List.isChain_iff_pairwise.1 (List.isChain_iff_getElem.2 fun n hn => ?_)
          exact ((g _).bound (n + 1) _ (List.getElem?_eq_getElem hn) rfl).2.2.2 _ (by omega)
            (List.getElem?_eq_getElem (by omega)) }

/-- The counts that the tests look at are in range where every test passes. -/
theorem counts_of_tests_pass {f : ProfileFields} (h : firstFailed f.tests = none) :
    (1 ≤ f.couples.length ∧ f.couples.length ≤ 8) ∧ (1 ≤ f.bands.length ∧ f.bands.length ≤ 6) := by
  rw [firstFailed_eq_none] at h
  have h5 := h 5
  have h6 := h 6
  simp only [ProfileFields.tests, List.cons_append, List.nil_append, List.mem_cons, Prod.mk.injEq, not_or, not_and,
    @eq_comm Bool false, Bool.not_eq_false, within_eq_true, forall_const] at h5 h6
  exact ⟨h5.2.2.2.2.1, h6.2.2.2.2.2.1⟩

/-- The field tests of PWRITE pass exactly for valid fields (R16). -/
theorem firstFailed_tests_eq_none {f : ProfileFields} : firstFailed f.tests = none ↔ ValidFields f := by
  constructor
  · intro h
    obtain ⟨hc, hb⟩ := counts_of_tests_pass h
    exact validFields_iff.2 ⟨hc, hb, fun i => by simpa [mem_tests hc hb] using firstFailed_eq_none.1 h i⟩
  · intro v
    obtain ⟨hc, hb, g⟩ := validFields_iff.1 v
    exact firstFailed_eq_none.2 fun i hi => (mem_tests hc hb).1 hi (g i)

/-! ## Couples filed in ascending id -/

theorem insertCouple_perm (c : Couple) (cs : List Couple) : (insertCouple c cs).Perm (c :: cs) := by
  induction cs with
  | nil => exact .refl _
  | cons d ds ih =>
    unfold insertCouple
    split
    · exact .refl _
    · exact (ih.cons d).trans (.swap c d ds)

theorem insertCouple_ascending {c : Couple} {cs : List Couple} (h : cs.Pairwise fun c d => c.id < d.id)
    (hc : ∀ d ∈ cs, d.id ≠ c.id) : (insertCouple c cs).Pairwise fun c d => c.id < d.id := by
  induction cs with
  | nil => exact List.pairwise_singleton ..
  | cons d ds ih =>
    obtain ⟨hd, hds⟩ := List.pairwise_cons.1 h
    unfold insertCouple
    split
    next hlt =>
      refine List.pairwise_cons.2 ⟨fun e he => ?_, h⟩
      exact (List.mem_cons.1 he).elim (· ▸ hlt) fun he => hlt.trans (hd e he)
    next hge =>
      refine List.pairwise_cons.2 ⟨fun e he => ?_, ih hds fun e he => hc e (by simp [he])⟩
      rcases List.mem_cons.1 ((insertCouple_perm c ds).mem_iff.1 he) with rfl | he
      · have := hc d (by simp); omega
      · exact hd e he

theorem sortCouples_perm (cs : List Couple) : (sortCouples cs).Perm cs := by
  induction cs with
  | nil => exact .refl _
  | cons c cs ih => exact (insertCouple_perm c _).trans (ih.cons c)

theorem sortCouples_ascending {cs : List Couple} (h : cs.Pairwise fun c d => c.id ≠ d.id) :
    (sortCouples cs).Pairwise fun c d => c.id < d.id := by
  induction cs with
  | nil => exact List.Pairwise.nil
  | cons c cs ih =>
    obtain ⟨hc, hcs⟩ := List.pairwise_cons.1 h
    exact insertCouple_ascending (ih hcs) fun d hd => (hc d ((sortCouples_perm cs).mem_iff.1 hd)).symm

/-- Valid fields stay valid when their couples are filed. -/
theorem ValidFields.filed {f : ProfileFields} (v : ValidFields f) : ValidFields f.filed :=
  have hp : f.filed.couples.Perm f.couples := sortCouples_perm f.couples
  { v with
    coupleCount := hp.length_eq.symm ▸ v.coupleCount
    couples := fun c hc => v.couples c (hp.mem_iff.1 hc)
    couplesDiffer := (sortCouples_ascending v.couplesDiffer).imp Nat.ne_of_lt }

/-- A record of filed valid fields is valid. -/
theorem ValidFields.validProfile {f : ProfileFields} (v : ValidFields f) {p : Profile}
    (hp : p.toProfileFields = f.filed) : ValidProfile p where
  toValidFields := hp ▸ v.filed
  couplesAscend := by
    have : p.couples = sortCouples f.couples := congrArg ProfileFields.couples hp
    exact this ▸ sortCouples_ascending v.couplesDiffer

/-! ## What a trim item leaves of a working copy -/

/-- What every trim item leaves of a valid record's copy (R20): all its ranges; only that a couple is left and that the
bounds increase is judged at the end (R21). -/
structure CopyLaw (f : ProfileFields) : Prop where
  coupleCount : f.couples.length ≤ 8
  couples : ∀ c ∈ f.couples, 1 ≤ c.id ∧ c.id ≤ 8 ∧ c.coverage ≤ 400 ∧ c.rate ≤ 1000
  couplesAscend : f.couples.Pairwise fun c d => c.id < d.id
  bandCount : 1 ≤ f.bands.length ∧ f.bands.length ≤ 6
  bounds : ∀ b ∈ f.bands, 60 ≤ b.bound ∧ b.bound ≤ 1200 ∧ b.bound % 5 = 0
  setpoints : ∀ b ∈ f.bands, ∀ z, 100 ≤ b.setpoint z ∧ b.setpoint z ≤ 400
  exits : ∀ b ∈ f.bands,
    80 ≤ b.webExitMin ∧ b.webExitMin ≤ 180 ∧ 15 ≤ b.chillExitMax ∧ b.chillExitMax ≤ 45
  tolerance : 5 ≤ f.tolerance ∧ f.tolerance ≤ 40
  override : ∀ v, f.override = some v → 5 ≤ v ∧ v ≤ 120

theorem ValidProfile.copyLaw {p : Profile} (v : ValidProfile p) : CopyLaw p.toProfileFields :=
  { v with coupleCount := v.coupleCount.2 }

theorem hasCouple_eq_true {cs : List Couple} {id : Nat} : hasCouple cs id = true ↔ ∃ c ∈ cs, c.id = id := by
  simp [hasCouple]

theorem CopyLaw.modCouple {f : ProfileFields} (l : CopyLaw f) (id : Nat) {g : Couple → Couple}
    (hid : ∀ c, (g c).id = c.id)
    (hg : ∀ c ∈ f.couples, (g c).coverage ≤ 400 ∧ (g c).rate ≤ 1000) :
    CopyLaw { f with couples := modCouple f.couples id g } :=
  { l with
    coupleCount := by simpa [Machine.modCouple] using l.coupleCount
    couples := fun c hc => by
      obtain ⟨d, hd, rfl⟩ := List.mem_map.1 hc
      obtain ⟨h1, h8, hr⟩ := l.couples d hd
      split
      · exact ⟨(hid d).symm ▸ h1, (hid d).symm ▸ h8, hg d hd⟩
      · exact ⟨h1, h8, hr⟩
    couplesAscend := by
      have hi (c : Couple) : (if c.id = id then g c else c).id = c.id := by split <;> simp [hid]
      exact List.pairwise_map.2 (l.couplesAscend.imp fun h => by simpa only [hi] using h) }

/-- The band of a number that is in range. -/
theorem bandAt_getElem? {bs : List Band} {k : Nat} (hk : 1 ≤ k ∧ k ≤ bs.length) :
    bs[k - 1]? = some (bandAt bs k) := by
  have h : k - 1 < bs.length := by omega
  simp [bandAt, List.getElem?_eq_getElem h]

theorem modBand_eq_set {bs : List Band} {k : Nat} {b : Band} (hb : bs[k - 1]? = some b) (g : Band → Band) :
    modBand bs k g = bs.set (k - 1) (g b) := by
  unfold modBand
  rw [List.modify_eq_set_getElem?, hb]
  rfl

theorem CopyLaw.setBand {f : ProfileFields} (l : CopyLaw f) (i : Nat) {b : Band}
    (hb : 60 ≤ b.bound ∧ b.bound ≤ 1200 ∧ b.bound % 5 = 0) (hz : ∀ z, 100 ≤ b.setpoint z ∧ b.setpoint z ≤ 400)
    (he : 80 ≤ b.webExitMin ∧ b.webExitMin ≤ 180 ∧ 15 ≤ b.chillExitMax ∧ b.chillExitMax ≤ 45) :
    CopyLaw { f with bands := f.bands.set i b } :=
  { l with
    bandCount := by simpa using l.bandCount
    bounds := fun a ha => (List.mem_or_eq_of_mem_set ha).elim (l.bounds a) (· ▸ hb)
    setpoints := fun a ha => (List.mem_or_eq_of_mem_set ha).elim (l.setpoints a) (· ▸ hz)
    exits := fun a ha => (List.mem_or_eq_of_mem_set ha).elim (l.exits a) (· ▸ he) }

/-- Everything that setting a temperature of a band can do (R20, R156). -/
theorem Band.setField_eq_some {b c : Band} {field v : Nat} : b.setField field v = some c ↔
    field = 1 ∧ (100 ≤ v ∧ v ≤ 400) ∧ c = { b with z1 := v } ∨ field = 2 ∧ (100 ≤ v ∧ v ≤ 400) ∧ c = { b with z2 := v } ∨
      field = 3 ∧ (100 ≤ v ∧ v ≤ 400) ∧ c = { b with z3 := v } ∨
      field = 4 ∧ (80 ≤ v ∧ v ≤ 180) ∧ c = { b with webExitMin := v } ∨
      field = 5 ∧ (15 ≤ v ∧ v ≤ 45) ∧ c = { b with chillExitMax := v } := by
  unfold Band.setField
  split <;> simp_all [@eq_comm Band c]

/-- A trim item leaves the key and the width. -/
theorem applyItem_header {f g : ProfileFields} {i : TrimItem} (h : f.applyItem i = some g) :
    g.key = f.key ∧ g.width = f.width := by
  cases i <;> simp only [ProfileFields.applyItem, Option.ite_none_right_eq_some, Option.some.injEq,
    Option.map_eq_some_iff, reduceCtorEq] at h
  case setBandField => obtain ⟨-, b, -, rfl⟩ := h; exact ⟨rfl, rfl⟩
  case clearOverride => subst h; exact ⟨rfl, rfl⟩
  all_goals obtain ⟨-, rfl⟩ := h; exact ⟨rfl, rfl⟩

theorem applyItems_header {f g : ProfileFields} {k : Nat} {items : List TrimItem}
    (h : f.applyItems k items = .ok g) : g.key = f.key ∧ g.width = f.width := by
  induction items generalizing f k with
  | nil => cases h; exact ⟨rfl, rfl⟩
  | cons i is ih =>
    unfold ProfileFields.applyItems at h
    split at h
    · cases h
    next hi => exact ⟨(ih h).1.trans (applyItem_header hi).1, (ih h).2.trans (applyItem_header hi).2⟩

/-- A trim item leaves the copy within its ranges. -/
theorem CopyLaw.applyItem {f g : ProfileFields} (l : CopyLaw f) {i : TrimItem} (h : f.applyItem i = some g) :
    CopyLaw g := by
  cases i <;> simp only [ProfileFields.applyItem, Option.ite_none_right_eq_some, Option.some.injEq, Bool.and_eq_true,
    decide_eq_true_eq, within_eq_true, Bool.not_eq_true', Option.map_eq_some_iff, reduceCtorEq] at h
  case setCoverage id v =>
    obtain ⟨⟨-, hv⟩, rfl⟩ := h
    exact l.modCouple id (fun _ => rfl) fun c hc => ⟨hv, (l.couples c hc).2.2.2⟩
  case setRate id v =>
    obtain ⟨⟨-, hv⟩, rfl⟩ := h
    exact l.modCouple id (fun _ => rfl) fun c hc => ⟨(l.couples c hc).2.2.1, hv⟩
  case addCouple c =>
    obtain ⟨⟨⟨⟨⟨hid, hnew⟩, hlen⟩, hcov⟩, hrate⟩, rfl⟩ := h
    have hp := insertCouple_perm c f.couples
    have hne : ∀ d ∈ f.couples, d.id ≠ c.id := by simpa [hasCouple] using hnew
    refine { l with
      coupleCount := by rw [hp.length_eq]; exact hlen
      couples := fun d hd => ?_
      couplesAscend := insertCouple_ascending l.couplesAscend hne }
    rcases List.mem_cons.1 (hp.mem_iff.1 hd) with rfl | hd
    · exact ⟨hid.1, hid.2, hcov, hrate⟩
    · exact l.couples d hd
  case removeCouple id =>
    obtain ⟨-, rfl⟩ := h
    exact { l with
      coupleCount := (List.length_filter_le ..).trans l.coupleCount
      couples := fun c hc => l.couples c (List.mem_filter.1 hc).1
      couplesAscend := l.couplesAscend.filter _ }
  case setBandField k field v =>
    obtain ⟨hk, b, hb, rfl⟩ := h
    have hget := bandAt_getElem? hk
    have hm := List.mem_of_getElem? hget
    have hs := l.bounds _ hm
    have hz := l.setpoints _ hm
    have he := l.exits _ hm
    rw [modBand_eq_set hget]
    rcases Band.setField_eq_some.1 hb with ⟨-, hv, rfl⟩ | ⟨-, hv, rfl⟩ | ⟨-, hv, rfl⟩ | ⟨-, hv, rfl⟩ | ⟨-, hv, rfl⟩
    · exact l.setBand _ hs (fun | .z1 => hv | .z2 => hz .z2 | .z3 => hz .z3) he
    · exact l.setBand _ hs (fun | .z1 => hz .z1 | .z2 => hv | .z3 => hz .z3) he
    · exact l.setBand _ hs (fun | .z1 => hz .z1 | .z2 => hz .z2 | .z3 => hv) he
    · exact l.setBand _ hs hz ⟨hv.1, hv.2, he.2.2⟩
    · exact l.setBand _ hs hz ⟨he.1, he.2.1, hv⟩
  case setBandBound k v =>
    obtain ⟨⟨⟨hk, hv⟩, h5⟩, rfl⟩ := h
    have hget := bandAt_getElem? hk
    have hm := List.mem_of_getElem? hget
    have hz := l.setpoints _ hm
    have he := l.exits _ hm
    rw [modBand_eq_set hget]
    exact l.setBand _ ⟨hv.1, hv.2, by simpa using h5⟩ hz he
  case setTolerance v =>
    obtain ⟨hv, rfl⟩ := h
    exact { l with tolerance := hv }
  case setOverride v =>
    obtain ⟨hv, rfl⟩ := h
    exact { l with override := fun w hw => by cases hw; exact hv }
  case clearOverride =>
    subst h
    exact { l with override := fun w hw => by cases hw }

theorem CopyLaw.applyItems {f g : ProfileFields} (l : CopyLaw f) {k : Nat} {items : List TrimItem}
    (h : f.applyItems k items = .ok g) : CopyLaw g := by
  induction items generalizing f k with
  | nil => cases h; exact l
  | cons i is ih =>
    unfold ProfileFields.applyItems at h
    split at h
    · cases h
    next hi => exact ih (l.applyItem hi) h

/-- The bounds of a list of bands increase exactly where each lies below all that come after it (R3). -/
theorem boundsIncrease_eq_true {bs : List Band} :
    boundsIncrease bs = true ↔ bs.Pairwise fun a b => a.bound < b.bound := by
  have : Trans (fun a b : Band => a.bound < b.bound) (fun a b : Band => a.bound < b.bound)
      (fun a b : Band => a.bound < b.bound) := ⟨Nat.lt_trans⟩
  rw [← List.isChain_iff_pairwise]
  induction bs with
  | nil => simp [boundsIncrease]
  | cons a bs ih => cases bs <;> simp_all [boundsIncrease]

/-- Everything that the trim of a copy can answer (R20, R21). -/
theorem trimmed_eq_ok {f g : ProfileFields} {items : List TrimItem} : f.trimmed items = .ok g ↔
    f.applyItems 1 items = .ok g ∧ g.couples ≠ [] ∧ g.bands.Pairwise fun a b => a.bound < b.bound := by
  unfold ProfileFields.trimmed
  cases f.applyItems 1 items with
  | error k => simp
  | ok h =>
    by_cases hc : h.couples = [] <;> cases hb : boundsIncrease h.bands <;> simp [hc, hb, ← boundsIncrease_eq_true]
    all_goals rintro rfl; simp_all

theorem trimmed_key {f g : ProfileFields} {items : List TrimItem} (h : f.trimmed items = .ok g) : g.key = f.key :=
  (applyItems_header (trimmed_eq_ok.1 h).1).1

/-- A trim that is accepted leaves the fields of a valid record valid and their couples filed (R21). -/
theorem ValidProfile.trimmed {p : Profile} (v : ValidProfile p) {items : List TrimItem} {g : ProfileFields}
    (h : p.toProfileFields.trimmed items = .ok g) :
    ValidFields g ∧ g.couples.Pairwise fun c d => c.id < d.id := by
  obtain ⟨hi, hne, hb⟩ := trimmed_eq_ok.1 h
  have l := v.copyLaw.applyItems hi
  obtain ⟨hk, hw⟩ := applyItems_header hi
  exact ⟨{ l with
    key := hk ▸ v.key
    width := hw ▸ v.width
    coupleCount := ⟨List.length_pos_iff.2 hne, l.coupleCount⟩
    couplesDiffer := l.couplesAscend.imp Nat.ne_of_lt
    boundsAscend := hb }, l.couplesAscend⟩

end Sys2Proof.Machine
end

section
/-! PROOF. Which operations leave the records that the table law, the ranges and the binding law speak of: the profile
table, the size of the store, the calibration, and each lane's key and whether it is UNTHREADED. Nearly every operation
does; the few that do not are named in RecordInvariant, and an invariant of these records is proved once for the step. -/

namespace Sys2Proof.Machine

/-- What the table law, the calibration law, the profile ranges and the binding law read of a state, but for the dryer
state. -/
structure RecordView where
  profiles : List Profile
  storeSize : Nat
  calibration : Calibration
  calValid : Bool
  key : LaneId → Option Nat
  unthreaded : LaneId → Prop

def State.view (s : State) : RecordView :=
  { profiles := s.profiles, storeSize := s.store.slots.length, calibration := s.cal.values, calValid := s.cal.valid
    key := fun n => (s.lane n).key, unthreaded := fun n => (s.lane n).state = .unthreaded }

/-- `t` has the records of `s`, and the dryer leaves OFF only with a valid calibration (R86, R150). -/
structure KeepsRecords (s t : State) : Prop where
  view : t.view = s.view
  dryer : t.dryer.state ≠ .off → s.dryer.state ≠ .off ∨ s.cal.valid = true

/-! ## The relation -/

theorem KeepsRecords.refl (s : State) : KeepsRecords s s := ⟨rfl, .inl⟩

theorem KeepsRecords.trans {s t u : State} (h : KeepsRecords s t) (h' : KeepsRecords t u) : KeepsRecords s u where
  view := h'.view.trans h.view
  dryer hu := (h'.dryer hu).elim h.dryer fun hv => .inr ((congrArg RecordView.calValid h.view).symm.trans hv)

/-- An update of other fields. -/
theorem KeepsRecords.of_fields {s t : State} (lanes : t.lanes = s.lanes := by simp)
    (profiles : t.profiles = s.profiles := by simp) (store : t.store = s.store := by simp)
    (cal : t.cal = s.cal := by simp) (dryer : t.dryer.state = s.dryer.state := by simp) : KeepsRecords s t where
  view := by simp only [State.view, State.lane, lanes, profiles, store, cal]
  dryer h := .inl (dryer ▸ h)

theorem KeepsRecords.arbiter (s : State) (a : Arbiter) : KeepsRecords s { s with arbiter := a } := ⟨rfl, .inl⟩

theorem KeepsRecords.attention (s : State) (a : Attention) : KeepsRecords s { s with attention := a } := ⟨rfl, .inl⟩

theorem KeepsRecords.heartbeat (s : State) (b : Heartbeat) : KeepsRecords s { s with heartbeat := b } := ⟨rfl, .inl⟩

theorem KeepsRecords.exhaust (s : State) (e : Exhaust) : KeepsRecords s { s with exhaust := e } := ⟨rfl, .inl⟩

theorem KeepsRecords.port (s : State) (p : Port) : KeepsRecords s { s with port := p } := ⟨rfl, .inl⟩

/-- The dryer's timers and last cause are changed, not its state. -/
theorem KeepsRecords.dryerTimes (s : State) {d : Dryer} (h : d.state = s.dryer.state) :
    KeepsRecords s { s with dryer := d } := ⟨rfl, fun hd => .inl (h ▸ hd)⟩

/-- A lane record is changed, but not its key nor whether it is UNTHREADED. -/
structure Lane.SameBinding (l m : Lane) : Prop where
  key : m.key = l.key
  unthreaded : m.state = .unthreaded ↔ l.state = .unthreaded

theorem KeepsRecords.modLane (s : State) (n : LaneId) {f : Lane → Lane} (h : (s.lane n).SameBinding (f (s.lane n))) :
    KeepsRecords s (s.modLane n f) where
  view := by
    have hl (m : LaneId) : (s.lane m).SameBinding ((s.modLane n f).lane m) := by
      by_cases hm : m = n
      · subst hm; simpa using h
      · rw [State.lane_modLane_other _ _ hm]; exact ⟨rfl, .rfl⟩
    simp only [State.view, State.modLane_profiles, State.modLane_store, State.modLane_cal, RecordView.mk.injEq, true_and]
    exact ⟨funext fun m => (hl m).key, funext fun m => propext (hl m).unthreaded⟩
  dryer := .inl

theorem KeepsRecords.setLane (s : State) (n : LaneId) {l : Lane} (h : (s.lane n).SameBinding l) :
    KeepsRecords s (s.setLane n l) := KeepsRecords.modLane s n (f := fun _ => l) h

/-- A fold of operations that each keep the records keeps them. -/
theorem KeepsRecords.foldl {α : Type} {f : State → α → State} (h : ∀ s a, KeepsRecords s (f s a)) (l : List α)
    (s : State) : KeepsRecords s (l.foldl f s) := by
  induction l generalizing s with
  | nil => exact .refl s
  | cons a l ih => exact (h s a).trans (ih (f s a))

/-- An operation under a test. -/
theorem KeepsRecords.ite {s t u : State} {c : Prop} [Decidable c] (ht : c → KeepsRecords s t)
    (hu : ¬c → KeepsRecords s u) : KeepsRecords s (if c then t else u) := by
  split
  · exact ht ‹_›
  · exact hu ‹_›

/-! ## Lane records -/

theorem Lane.SameBinding.judged (l : Lane) (b : Option Bool) : l.SameBinding (l.judged b) where
  key := l.judged_key b
  unthreaded := by rcases l.judged_state b with h | ⟨h, -, h'⟩ | ⟨h, -, h'⟩ <;> simp [*]

theorem Lane.SameBinding.decreased (l : Lane) (g crawl graceMs : Nat) : l.SameBinding (l.decreased g crawl graceMs) := by
  unfold Lane.decreased
  dsimp only
  split
  next h => exact ⟨rfl, by have : l.state = .running := h.1; simp [this]⟩
  next => exact ⟨rfl, .rfl⟩

theorem Lane.SameBinding.raised (l : Lane) (g crawl : Nat) (stamp : BitVec 16) (bands : List Band) :
    l.SameBinding (l.raised g crawl stamp bands) := by
  have hs : (if l.state = .ready ∧ crawl < g then LaneState.running else l.state) = .unthreaded ↔
      l.state = .unthreaded := by
    split
    next h => simp [h.1]
    next => rfl
  unfold Lane.raised Lane.leadReached
  dsimp only
  split
  · split <;> exact ⟨rfl, hs⟩
  · exact ⟨rfl, hs⟩

/-! ## The lane unit -/

theorem keepsRecords_settle (s : State) (n : LaneId) : KeepsRecords s (s.settle n) :=
  .modLane s n (.judged ..)

theorem keepsRecords_removeTarget (s : State) (n : LaneId) : KeepsRecords s (s.removeTarget n) :=
  (KeepsRecords.modLane s n ⟨rfl, .rfl⟩).trans (.arbiter _ _)

theorem keepsRecords_decrease (s : State) (n : LaneId) (g : Nat) : KeepsRecords s (s.decrease n g) :=
  (KeepsRecords.modLane s n (.decreased ..)).trans (keepsRecords_settle ..)

theorem keepsRecords_raise (s : State) (n : LaneId) (g : Nat) : KeepsRecords s (s.raise n g) :=
  (KeepsRecords.arbiter s _).trans ((KeepsRecords.modLane _ n (.raised ..)).trans (keepsRecords_settle ..))

theorem keepsRecords_stopLane (s : State) (n : LaneId) {state : LaneState} (graceMs : Nat)
    (h : (s.lane n).state ≠ .unthreaded) (h' : state ≠ .unthreaded) : KeepsRecords s (s.stopLane n state graceMs) :=
  (keepsRecords_removeTarget s n).trans <|
    (KeepsRecords.modLane _ n
      ⟨rfl, by rw [State.lane_removeTarget_same]; exact iff_of_false h' h⟩).trans (keepsRecords_settle ..)

theorem keepsRecords_latch (s : State) (c : Cause) : KeepsRecords s (s.latch c) := .of_fields

theorem keepsRecords_latchLane (s : State) (c : Cause) (n : LaneId) : KeepsRecords s (s.latchLane c n) := .of_fields

theorem keepsRecords_reform (s : State) : KeepsRecords s s.reform := .of_fields

theorem keepsRecords_reformLimit (s : State) : KeepsRecords s s.reformLimit := .of_fields

theorem keepsRecords_startCadence (s : State) : KeepsRecords s s.startCadence := .of_fields

theorem LaneState.ne_unthreaded_of_moving {l : LaneState} (h : l.moving = true) : l ≠ .unthreaded := by
  rintro rfl; exact Bool.false_ne_true h

theorem keepsRecords_breakLane (s : State) (n : LaneId) : KeepsRecords s (s.breakLane n) :=
  .ite (fun h => (keepsRecords_stopLane s n (state := .broke) s.graceMs (LaneState.ne_unthreaded_of_moving h)
    (by decide)).trans ((keepsRecords_latchLane ..).trans (keepsRecords_startCadence _))) fun _ => .refl s

theorem keepsRecords_suspendWhere (s : State) {test : LaneState → Bool} (h : test .unthreaded = false) :
    KeepsRecords s (s.suspendWhere test) :=
  .foldl (fun t n => .ite (fun ht => keepsRecords_stopLane t n _ (fun e => by simp [e, h] at ht) (by decide))
    fun _ => .refl t) _ s

theorem keepsRecords_setBreakInput (s : State) (n : LaneId) (b : BreakInput) :
    KeepsRecords s (s.setBreakInput n b) := ⟨rfl, .inl⟩

theorem keepsRecords_checkInput (s : State) (n : LaneId) : KeepsRecords s (s.checkInput n) :=
  .ite (fun _ => .of_fields) fun _ => .refl s

theorem keepsRecords_resume (s : State) (n : LaneId) : KeepsRecords s (s.resume n) :=
  .ite (fun h => (KeepsRecords.modLane s n ⟨rfl, by simp [h]⟩).trans
    ((keepsRecords_checkInput ..).trans (keepsRecords_settle ..))) fun _ => .refl s

theorem keepsRecords_clampSpeed (s : State) (n : LaneId) (max : Nat) : KeepsRecords s (s.clampSpeed n max) :=
  .ite (fun _ => keepsRecords_decrease ..) fun _ => .refl s

theorem keepsRecords_clampTarget (s : State) (n : LaneId) (max : Nat) : KeepsRecords s (s.clampTarget n max) := by
  unfold State.clampTarget
  split
  · exact .ite (fun _ => .ite (fun _ => keepsRecords_removeTarget ..) fun _ => .modLane s n ⟨rfl, .rfl⟩) fun _ => .refl s
  · exact .refl s

theorem keepsRecords_clampLead (s : State) (n : LaneId) (bands : List Band) : KeepsRecords s (s.clampLead n bands) := by
  unfold State.clampLead
  dsimp only
  split
  · exact .ite (fun _ => .modLane s n ⟨rfl, .rfl⟩) fun _ => .refl s
  · exact .refl s

theorem keepsRecords_trimLane (s : State) (bands : List Band) (n : LaneId) : KeepsRecords s (s.trimLane bands n) :=
  (keepsRecords_clampSpeed ..).trans ((keepsRecords_clampTarget ..).trans
    ((keepsRecords_clampLead ..).trans (keepsRecords_settle ..)))

theorem keepsRecords_trimLanes (s : State) (key : Nat) (bands : List Band) :
    KeepsRecords s (s.trimLanes key bands) :=
  .foldl (fun t n => .ite (fun _ => keepsRecords_trimLane t bands n) fun _ => .refl t) _ s

/-! ## The dryer -/

theorem keepsRecords_enterDryer (s : State) {d : DryerState}
    (h : d ≠ .off → s.dryer.state ≠ .off ∨ s.cal.valid = true) : KeepsRecords s (s.enterDryer d) := ⟨rfl, h⟩

theorem keepsRecords_enterSafeHold (s : State) (c : HoldCause) (h : s.dryer.state ≠ .off) :
    KeepsRecords s (s.enterSafeHold c) := by
  have hs := (keepsRecords_enterDryer s (d := .safeHold) fun _ => .inl h).trans (keepsRecords_latch _ .safeHold)
  unfold State.enterSafeHold
  refine .trans (hs.trans ?_) (keepsRecords_suspendWhere _ rfl)
  exact .dryerTimes _ rfl

theorem keepsRecords_requestSafeHold (s : State) (c : HoldCause) : KeepsRecords s (s.requestSafeHold c) :=
  .ite (fun h => keepsRecords_enterSafeHold s c (by rcases h with h | h <;> simp [h])) fun _ => .refl s

theorem keepsRecords_enterHeating (s : State) (h : s.dryer.state ≠ .off) : KeepsRecords s s.enterHeating :=
  (keepsRecords_enterDryer s fun _ => .inl h).trans (.foldl keepsRecords_resume _ _)

theorem keepsRecords_endCooldown (s : State) : KeepsRecords s s.endCooldown :=
  (keepsRecords_enterDryer s (d := .off) fun h => absurd rfl h).trans (keepsRecords_latch ..)

theorem keepsRecords_testCool (s : State) : KeepsRecords s s.testCool :=
  .ite (fun _ => keepsRecords_endCooldown s) fun _ => .refl s

theorem keepsRecords_enterCooldown (s : State) (h : s.dryer.state ≠ .off) : KeepsRecords s s.enterCooldown := by
  have hs := keepsRecords_enterDryer s (d := .cooldown) fun _ => .inl h
  unfold State.enterCooldown
  refine .trans (.trans (hs.trans ?_) (keepsRecords_suspendWhere _ rfl)) (keepsRecords_testCool _)
  exact .dryerTimes _ rfl

theorem keepsRecords_dstart (body : List Byte) (s : State) : KeepsRecords s (takeDstart body s).1 := by
  unfold takeDstart
  split
  · split
    · split
      next hv =>
        have hd := keepsRecords_enterDryer s (d := .purge) fun _ => .inr hv
        exact ((hd.trans (.dryerTimes (d := { (s.enterDryer .purge).dryer with purgeMs := 0 }) _ rfl)).trans
          (.exhaust _ _)).trans (keepsRecords_reform _)
      next => exact .refl s
    · exact .refl s
  · exact .refl s

theorem keepsRecords_dstop (body : List Byte) (s : State) : KeepsRecords s (takeDstop body s).1 := by
  have cool (h : s.dryer.state ≠ .off) : KeepsRecords s s.enterCooldown.reform :=
    (keepsRecords_enterCooldown s h).trans (keepsRecords_reform _)
  unfold takeDstop
  split
  · split
    next => exact .refl s
    next => exact .refl s
    next h => split
              · exact .refl s
              · exact cool (by simp [h])
    next h => exact cool (by simp [h])
    next h => exact cool (by simp [h])
  · exact .refl s

theorem judgeFlow_dryer (s : State) (count : Nat) : (s.judgeFlow count).1.dryer = s.dryer := by
  unfold State.judgeFlow; dsimp only; split <;> simp

theorem keepsRecords_judgeFlow (s : State) (count : Nat) : KeepsRecords s (s.judgeFlow count).1 := by
  unfold State.judgeFlow; dsimp only; split <;> exact .of_fields

theorem keepsRecords_flowInHeating (s : State) (count : Nat) : KeepsRecords s (s.flowInHeating count) :=
  .ite (fun _ => (keepsRecords_judgeFlow ..).trans (keepsRecords_requestSafeHold ..)) fun _ => keepsRecords_judgeFlow ..

theorem keepsRecords_flowInPurge (s : State) (count : Nat) (h : s.dryer.state ≠ .off) :
    KeepsRecords s (s.flowInPurge count) := by
  have hj : KeepsRecords s ((s.accumulate count).judgeFlow count).1 :=
    (KeepsRecords.exhaust s _).trans (keepsRecords_judgeFlow (s.accumulate count) count)
  have hd : ((s.accumulate count).judgeFlow count).1.dryer.state ≠ .off := by rw [judgeFlow_dryer]; exact h
  unfold State.flowInPurge
  dsimp only
  split
  · exact .ite (fun _ => (hj.trans (.exhaust _ _)).trans (keepsRecords_enterHeating _ hd)) fun _ => hj.trans (.exhaust _ _)
  · exact .ite (fun _ => hj.trans (keepsRecords_enterHeating _ hd)) fun _ => hj

theorem keepsRecords_flowWindow (s : State) : KeepsRecords s s.flowWindow := by
  have hf : KeepsRecords s s.formFlow := .exhaust s _
  unfold State.flowWindow
  split
  next => exact hf.trans (keepsRecords_flowInHeating ..)
  next h => exact hf.trans (keepsRecords_flowInPurge _ _ (show s.dryer.state ≠ .off by simp [h]))
  next => exact hf

/-! ## The grant arbiter -/

theorem keepsRecords_withdrawTo (s : State) (n : LaneId) (g : Nat) : KeepsRecords s (s.withdrawTo n g) :=
  (keepsRecords_decrease ..).trans (keepsRecords_latchLane ..)

theorem keepsRecords_withdraw (capacity : Nat) (ns : List LaneId) (s : State) (lowered : List LaneId) :
    KeepsRecords s (State.withdraw capacity ns (s, lowered)).1 := by
  induction ns generalizing s lowered with
  | nil => exact .refl s
  | cons n ns ih =>
    unfold State.withdraw
    dsimp only
    split
    · exact .refl s
    · split
      · exact (keepsRecords_withdrawTo ..).trans (ih ..)
      · exact ih ..

theorem keepsRecords_overload (s : State) : KeepsRecords s s.overload :=
  (KeepsRecords.foldl (fun t _ => .ite (fun _ => keepsRecords_withdrawTo ..) fun _ => .refl t) _ s).trans
    (keepsRecords_requestSafeHold ..)

theorem keepsRecords_analyzerStep (r : State × List LaneId) : KeepsRecords r.1 (State.analyzerStep r).1 := by
  unfold State.analyzerStep
  dsimp only
  split
  · split
    · exact (KeepsRecords.arbiter ..).trans (keepsRecords_withdrawTo ..)
    · exact .arbiter ..
  · exact .refl _

theorem keepsRecords_hotWebStep (r : State × List LaneId) (n : LaneId) :
    KeepsRecords r.1 (State.hotWebStep r n).1 := by
  have hm (k : Nat) : KeepsRecords r.1 (r.1.modLane n fun l => { l with hotWeb := k }) := .modLane _ n ⟨rfl, .rfl⟩
  unfold State.hotWebStep
  dsimp only
  split
  · split
    · exact (hm 0).trans ((keepsRecords_decrease ..).trans (keepsRecords_latchLane ..))
    · exact hm _
  · exact .refl _

theorem keepsRecords_hotWebSteps (ns : List LaneId) (r : State × List LaneId) :
    KeepsRecords r.1 (ns.foldl State.hotWebStep r).1 := by
  induction ns generalizing r with
  | nil => exact .refl _
  | cons n ns ih => exact (keepsRecords_hotWebStep r n).trans (ih _)

theorem keepsRecords_serveLane (s : State) (capacity : Nat) (n : LaneId) :
    KeepsRecords s (s.serveLane capacity n) := by
  unfold State.serveLane
  split
  · refine .ite (fun _ => ?_) fun _ => .ite (fun _ => ?_) fun _ => .refl s
    · exact .ite (fun _ => (keepsRecords_raise ..).trans ((keepsRecords_removeTarget ..).trans
        ((keepsRecords_settle ..).trans (keepsRecords_latchLane ..)))) fun _ => keepsRecords_raise ..
    · exact (KeepsRecords.modLane _ n ⟨rfl, .rfl⟩).trans (keepsRecords_settle ..)
  · exact .refl s

theorem keepsRecords_serve (capacity : Nat) (lowered ns : List LaneId) (s : State) :
    KeepsRecords s (State.serve capacity lowered ns s) := by
  induction ns generalizing s with
  | nil => exact .refl s
  | cons n ns ih => exact (KeepsRecords.ite (fun _ => .refl s) fun _ => keepsRecords_serveLane ..).trans (ih _)

theorem keepsRecords_evaluate (s : State) : KeepsRecords s s.evaluate := by
  have hw : KeepsRecords s (State.withdraw s.holdEstimate.capacity s.holdEstimate.runningByStamp (s.holdEstimate, [])).1 :=
    (KeepsRecords.of_fields (t := s.holdEstimate)).trans (keepsRecords_withdraw ..)
  unfold State.evaluate
  refine .ite (fun _ => hw.trans (keepsRecords_overload _)) fun _ => hw.trans ?_
  refine (keepsRecords_analyzerStep _).trans ((keepsRecords_hotWebSteps LaneId.all _).trans ?_)
  exact .ite (fun _ => keepsRecords_serve ..) fun _ => .refl _

/-! ## Readings, breaks, lanes -/

theorem keepsRecords_judgeCut (s : State) (p : Channel × Int) : KeepsRecords s (s.judgeCut p) := by
  unfold State.judgeCut State.cutTest
  split
  · exact .ite (fun _ => .ite (fun _ => .of_fields) fun _ => .refl s) fun _ => .ite (fun _ => .of_fields) fun _ => .refl s
  · exact .refl s

theorem keepsRecords_judgeBand (s : State) (p : Channel × Int) : KeepsRecords s (s.judgeBand p) := by
  unfold State.judgeBand
  split
  · exact keepsRecords_settle ..
  · exact .refl s

theorem keepsRecords_judgeAnalyzer (s : State) (p : Channel × Int) : KeepsRecords s (s.judgeAnalyzer p) := by
  unfold State.judgeAnalyzer
  split
  · refine .ite (fun _ => ?_) fun _ => .refl s
    have he : KeepsRecords s (s.stepExcess (p.1.clamp p.2)) := .arbiter ..
    refine he.trans ?_
    exact .ite (fun _ => (keepsRecords_latch ..).trans (keepsRecords_requestSafeHold ..)) fun _ => .refl _
  · exact .refl s

theorem keepsRecords_takeValue (s : State) (p : Channel × Int) : KeepsRecords s (s.takeValue p) := by
  unfold State.takeValue; exact .of_fields

theorem keepsRecords_takeReadings (s : State) (pairs : List (Channel × Int)) :
    KeepsRecords s (s.takeReadings pairs) := by
  have hz := (KeepsRecords.foldl keepsRecords_takeValue pairs s).trans
    ((KeepsRecords.foldl keepsRecords_judgeCut pairs _).trans (KeepsRecords.foldl keepsRecords_judgeBand pairs _))
  unfold State.takeReadings
  dsimp only
  refine .trans ?_ (KeepsRecords.ite (fun _ => keepsRecords_testCool _) fun _ => .refl _)
  refine .trans ?_ (KeepsRecords.foldl keepsRecords_judgeAnalyzer pairs _)
  exact .ite (fun _ => hz.trans .of_fields) fun _ => hz

theorem keepsRecords_rdg (body : List Byte) (s : State) : KeepsRecords s (takeRdg body s).1 := by
  unfold takeRdg
  split
  · exact .refl s
  · split
    · exact .refl s
    · split
      · exact .refl s
      · split
        · exact .refl s
        · exact (keepsRecords_takeReadings ..).trans (keepsRecords_reform _)

theorem keepsRecords_goStale (s : State) (c : Channel) : KeepsRecords s (s.goStale c) := by
  have hl : KeepsRecords s ((s.setReading c { s.reading c with fresh := false }).latchStale c) := by
    unfold State.latchStale
    split <;> exact .of_fields
  unfold State.goStale
  dsimp only
  split
  · exact hl.trans ((keepsRecords_settle ..).trans (keepsRecords_testCool _))
  · exact (hl.trans (keepsRecords_reformLimit _)).trans (.ite (fun _ => .arbiter ..) fun _ => .refl _)
  · exact hl

theorem keepsRecords_lbrk (body : List Byte) (s : State) : KeepsRecords s (takeLbrk body s).1 := by
  unfold takeLbrk
  split
  · split
    · exact (KeepsRecords.foldl keepsRecords_breakLane _ s).trans (keepsRecords_reform _)
    · exact .refl s
  · exact .refl s

theorem keepsRecords_takeTargetNow (s : State) (n : LaneId) (t : Nat) : KeepsRecords s (s.takeTargetNow n t) :=
  .ite (fun _ => (keepsRecords_decrease ..).trans (keepsRecords_removeTarget ..)) fun _ =>
    .ite (fun _ => keepsRecords_removeTarget ..) fun _ =>
      (keepsRecords_removeTarget s n).trans (.modLane _ n ⟨rfl, .rfl⟩)

theorem keepsRecords_queueTarget (s : State) (n : LaneId) (t : Nat) : KeepsRecords s (s.queueTarget n t) := by
  refine (KeepsRecords.modLane s n ?_).trans (.ite (fun _ => .refl _) fun _ => .of_fields)
  dsimp only
  split <;> exact ⟨rfl, .rfl⟩

theorem keepsRecords_lspd (body : List Byte) (s : State) : KeepsRecords s (takeLspd body s).1 := by
  unfold takeLspd
  split
  · split
    · exact .refl s
    · split
      · exact .refl s
      · split
        · exact .refl s
        · dsimp only
          split
          · exact .refl s
          · exact ((KeepsRecords.ite (fun _ => keepsRecords_queueTarget ..) fun _ => keepsRecords_takeTargetNow ..).trans
              (keepsRecords_settle ..)).trans (keepsRecords_reform _)
  · exact .refl s

theorem keepsRecords_lclr (body : List Byte) (s : State) : KeepsRecords s (takeLclr body s).1 := by
  unfold takeLclr
  split
  · split
    · exact .refl s
    next =>
      split
      · exact .refl s
      next h =>
        split
        · exact .refl s
        · refine KeepsRecords.trans ?_ (keepsRecords_reform _)
          exact (KeepsRecords.modLane s _ ⟨rfl, by split <;> simp [h]⟩).trans (keepsRecords_settle ..)
      · exact .refl s
  · exact .refl s

theorem keepsRecords_judgeSpeed (s : State) (n : LaneId) : KeepsRecords s (s.judgeSpeed n) := by
  have hl : ∀ {l : Lane}, l.key = (s.lane n).key → l.state = (s.lane n).state → KeepsRecords s (s.setLane n l) :=
    fun hk hs => .setLane s n ⟨hk, by rw [hs]⟩
  unfold State.judgeSpeed
  refine .ite (fun _ => .refl s) fun _ => .ite (fun _ => ?_) fun _ => hl rfl rfl
  refine .ite (fun _ => hl rfl rfl) fun _ => .ite (fun _ => hl rfl rfl) fun _ => .ite (fun _ => ?_) fun _ => .refl s
  exact .trans (hl (l := { s.lane n with overCount := 2, overspeed := true }) rfl rfl) (keepsRecords_latchLane ..)

end Sys2Proof.Machine
end

section
/-! PROOF. What a step does to the table, the calibration and the bindings: everything but the operations that
RecordInvariant names leaves them, so a property of them that those operations keep is kept by every step. -/

namespace Sys2Proof.Machine

/-! ## What the relation says, field by field -/

section
variable {s t : State} (h : KeepsRecords s t)
include h

theorem KeepsRecords.profiles : t.profiles = s.profiles := congrArg RecordView.profiles h.view

theorem KeepsRecords.storeSize : t.store.slots.length = s.store.slots.length := congrArg RecordView.storeSize h.view

theorem KeepsRecords.calibration : t.cal.values = s.cal.values := congrArg RecordView.calibration h.view

theorem KeepsRecords.calValid : t.cal.valid = s.cal.valid := congrArg RecordView.calValid h.view

theorem KeepsRecords.key (n : LaneId) : (t.lane n).key = (s.lane n).key :=
  congrFun (congrArg RecordView.key h.view) n

theorem KeepsRecords.unthreaded (n : LaneId) : (t.lane n).state = .unthreaded ↔ (s.lane n).state = .unthreaded :=
  iff_of_eq (congrFun (congrArg RecordView.unthreaded h.view) n)

end

/-! ## Requests that leave the records -/

theorem keepsRecords_pkrd (body : List Byte) (s : State) : KeepsRecords s (takePkrd body s).1 := by
  unfold takePkrd
  dsimp only
  split
  · split
    · exact .refl s
    · split <;> exact .of_fields
  · exact .refl s

theorem keepsRecords_atclr (body : List Byte) (s : State) : KeepsRecords s (takeAtclr body s).1 := by
  unfold takeAtclr
  split
  · split
    · exact .refl s
    · exact (KeepsRecords.of_fields (t := State.tellHorn _)).trans (keepsRecords_reform _)
  · exact .refl s

theorem keepsRecords_atmsk (body : List Byte) (s : State) : KeepsRecords s (takeAtmsk body s).1 := by
  unfold takeAtmsk
  split
  · split
    · exact .refl s
    · exact .of_fields
  · exact .refl s

theorem keepsRecords_beat (body : List Byte) (s : State) : KeepsRecords s (takeBeat body s).1 := by
  unfold takeBeat
  split
  · exact .of_fields
  · exact .refl s

theorem keepsRecords_kstat (body : List Byte) (s : State) : KeepsRecords s (takeKstat body s).1 := by
  unfold takeKstat
  dsimp only
  split
  · split
    · exact .refl s
    · split <;> exact .of_fields
  · exact .refl s

theorem keepsRecords_srst (body : List Byte) (s : State) : KeepsRecords s (takeSrst body s).1 := by
  unfold takeSrst
  split
  · split <;> exact .of_fields
  · exact .refl s

theorem keepsRecords_endCommit (s : State) : KeepsRecords s s.endCommit :=
  (KeepsRecords.of_fields (t := { s with commit := none })).trans (keepsRecords_latch ..)

theorem keepsRecords_continueCommit (s : State) (c : Commit) : KeepsRecords s (s.continueCommit c) :=
  .ite (fun _ => keepsRecords_endCommit s) fun _ => .of_fields

theorem keepsRecords_scommit (body : List Byte) (s : State) : KeepsRecords s (takeScommit body s).1 := by
  unfold takeScommit
  split
  · exact .refl s
  · split
    · exact (keepsRecords_continueCommit ..).trans (keepsRecords_reform _)
    · exact .refl s

/-- A request that only answers leaves everything. -/
theorem takes_nothing (body : List Byte) (s : State) : (takePlook body s).1 = s ∧ (takePlist body s).1 = s ∧
    (takeLstat body s).1 = s ∧ (takeDstat body s).1 = s ∧ (takeAtrd body s).1 = s ∧ (takeCrd body s).1 = s := by
  unfold takePlook takePlist takeLstat takeDstat takeAtrd takeCrd
  refine ⟨?_, ?_, ?_, ?_, ?_, ?_⟩ <;> split <;> (try split) <;> rfl

/-! ## Slot writes -/

theorem keepsRecords_stepFree (s : State) : KeepsRecords s s.stepFree := ⟨rfl, .inl⟩

theorem keepsRecords_latchSlotFault (s : State) (i : Nat) : KeepsRecords s (s.latchSlotFault i) :=
  (keepsRecords_latch s .storeFault).trans (.attention ..)

theorem keepsRecords_latchCalibrationFault (s : State) : KeepsRecords s s.latchCalibrationFault :=
  (keepsRecords_latch s .storeFault).trans (.attention ..)

theorem keepsRecords_slotWritten (s : State) (i : Nat) (image : Option ProfileImage) (remarked : BitVec 48)
    (verified : Bool) : KeepsRecords s (s.slotWritten i image remarked verified) := by
  have hs : KeepsRecords s (s.setSlot i (writtenContent image verified s.freeIndex)) :=
    ⟨by simp [State.view, State.setSlot, State.lane], .inl⟩
  refine .ite (fun _ => hs.trans (.ite (fun _ => .refl _) fun _ => .of_fields)) fun _ => hs.trans ?_
  exact (keepsRecords_stepFree _).trans (keepsRecords_latchSlotFault ..)

theorem keepsRecords_calibrationWritten (s : State) (values : List Nat) (verified : Bool) :
    KeepsRecords s (s.calibrationWritten values verified) := by
  have hs : KeepsRecords s (s.setCalibrationSlot (writtenContent (some values) verified s.freeIndex)) := ⟨rfl, .inl⟩
  refine .ite (fun _ => ⟨rfl, .inl⟩) fun _ => hs.trans ?_
  exact (keepsRecords_stepFree _).trans (keepsRecords_latchCalibrationFault _)

theorem keepsRecords_writeDone (s : State) (c : Commit) (verified : Bool) : KeepsRecords s (s.writeDone c verified) := by
  unfold State.writeDone
  split
  · exact (keepsRecords_slotWritten ..).trans (keepsRecords_continueCommit ..)
  · split
    · exact (keepsRecords_calibrationWritten ..).trans (keepsRecords_continueCommit ..)
    · exact keepsRecords_endCommit s

/-! ## Events that leave the records -/

theorem keepsRecords_emptyQueue (s : State) : KeepsRecords s s.emptyQueue :=
  .foldl (fun t n => (keepsRecords_removeTarget t n).trans (keepsRecords_settle _ n)) _ s

theorem keepsRecords_lowerToCrawl (s : State) : KeepsRecords s s.lowerToCrawl :=
  .foldl (fun t n => .ite (fun _ => keepsRecords_decrease t n _) fun _ => .refl t) _ s

theorem keepsRecords_later (s : State) : KeepsRecords s s.later where
  view := by simp [State.view, State.later, State.lane, Lane.later]
  dryer := .inl

theorem keepsRecords_post (s : State) : KeepsRecords s s.post := by
  unfold State.post
  split
  · exact .refl s
  · exact .of_fields

/-- Time that passes leaves the records. -/
theorem keepsRecords_tick (s : State) : KeepsRecords s s.tick := by
  rcases s.tick_cases with ⟨-, h⟩ | ⟨-, -, h⟩ | ⟨i, rest, -, -, -, h⟩ | ⟨-, -, -, h⟩ <;> rw [h]
  · exact .refl s
  · exact .of_fields
  · exact .of_fields
  · exact .trans (t := s.pass) ⟨(keepsRecords_later s).view, .inl⟩ (keepsRecords_post _)

theorem keepsRecords_judgeAges (s : State) : KeepsRecords s s.judgeAges :=
  .foldl (fun t c => .ite (fun _ => keepsRecords_goStale t c) fun _ => .refl t) _ s

end Sys2Proof.Machine
end

section
/-! PROOF. An invariant of the table, the calibration and the bindings is kept by every step once the few operations that
write those records keep it. -/

namespace Sys2Proof.Machine

/-- A record that may take the place of `p` in the table (R18, R22, R23): of its key, its slot index and its bind count,
valid where `p` is, and RETIRE_PENDING only where `p` is or where a lane is bound. -/
structure Rewrites (p q : Profile) : Prop where
  key : q.key = p.key
  slot : q.slot = p.slot
  bindCount : q.bindCount = p.bindCount
  retiring : q.retirePending = true → p.retirePending = true ∨ 1 ≤ p.bindCount
  valid : ValidProfile p → ValidProfile q

/-- A property that the operations on the table, the calibration and the bindings keep, and that speaks of nothing
else. -/
structure RecordInvariant (P : State → Prop) : Prop where
  kept : ∀ {s t}, P s → KeepsRecords s t → P t
  create : ∀ {s p}, P s → ValidProfile p → p.retirePending = false → p.bindCount = 0 →
    findProfile s.profiles p.key = none → p.slot < 48 → (∀ q ∈ s.profiles, q.slot ≠ p.slot) →
    P { s with profiles := insertProfile p s.profiles }
  rewrite : ∀ {s p q}, P s → findProfile s.profiles p.key = some p → Rewrites p q →
    P { s with profiles := replaceProfile s.profiles q }
  remove : ∀ {s p}, P s → findProfile s.profiles p.key = some p → p.bindCount = 0 →
    P { s with profiles := removeProfile s.profiles p.key }
  thread : ∀ {s n k p}, P s → (s.lane n).state = .unthreaded → findProfile s.profiles k = some p →
    p.retirePending = false → P (({ s with
      profiles := replaceProfile s.profiles { p with bindCount := p.bindCount + 1 } } : State).modLane n
        fun l => l.threaded k)
  unthread : ∀ {s n}, P s → (s.lane n).state ≠ .unthreaded →
    P (((s.removeTarget n).modLane n fun l => l.unthread s.graceMs).unbind ((s.lane n).key.getD 0)).1
  calibrate : ∀ {s v}, P s → v.length = 29 → firstFailed (calibrationTests v) = none →
    P { s with cal := ⟨.ofValues v, true, true⟩ }
  boot : ∀ {s} straps levels, P s → P (s.boot straps levels)
  losePower : ∀ {s}, P s → P s.losePower

/-! ## The length of a calibration block -/

/-- The bytes of n calibration values from an index on (R161). -/
def blockSize : Nat → Nat → Nat
  | 0, _ => 0
  | n + 1, i => (if calibrationWide i then 2 else 1) + blockSize n (i + 1)

theorem readValues_length {n i : Nat} {bytes : List Byte} (h : bytes.length = blockSize n i) :
    (readValues n i bytes).length = n := by
  induction n generalizing i bytes with
  | zero => rfl
  | succ n ih =>
    cases bytes with
    | nil => unfold blockSize at h; split at h <;> simp at h <;> omega
    | cons hi rest =>
      unfold blockSize at h
      unfold readValues
      split <;> rename_i hw <;> simp only [hw, List.length_cons, if_true, if_false, Bool.false_eq_true] at h
      · cases rest with
        | nil => simp at h; omega
        | cons lo rest' => rw [List.length_cons, ih (by simp at h; omega)]
      · rw [List.length_cons, ih (by omega)]

theorem readCalibration_length {body : List Byte} {v : List Nat} (h : readCalibration body = some v) :
    v.length = 29 := by
  obtain ⟨hl, hv⟩ := Option.ite_none_right_eq_some.1 h
  cases hv
  exact readValues_length hl

/-! ## The port -/

theorem keepsRecords_setIdle (s : State) (ms : Nat) : KeepsRecords s (s.setIdle ms) := .of_fields

theorem keepsRecords_discard (s : State) (kind : LinkError) : KeepsRecords s (s.discard kind) := .of_fields

theorem keepsRecords_hunt (s : State) : KeepsRecords s s.hunt := .of_fields

theorem keepsRecords_collide (s : State) : KeepsRecords s s.collide := .of_fields

theorem keepsRecords_busyLine (s : State) : KeepsRecords s s.busyLine :=
  .ite (fun _ => keepsRecords_collide s) fun _ => .refl s

theorem keepsRecords_prepareAnswer (s : State) (code : Byte) (r : Reply) : KeepsRecords s (s.prepareAnswer code r) :=
  .of_fields

theorem keepsRecords_addGood (s : State) (rx : List Byte) : KeepsRecords s (s.addGood rx) :=
  .ite (fun _ => keepsRecords_discard ..) fun _ =>
    .ite (fun _ => .ite (fun _ => .port ..) fun _ => keepsRecords_discard ..) fun _ => .port ..

theorem keepsRecords_addCharacter (s : State) (rx : List Byte) (c : LineChar) :
    KeepsRecords s (s.addCharacter rx c) :=
  .ite (fun _ => keepsRecords_discard ..) fun _ => keepsRecords_addGood ..

theorem keepsRecords_hearInHunt (s : State) (gap : Bool) (c : LineChar) : KeepsRecords s (s.hearInHunt gap c) :=
  .ite (fun _ => keepsRecords_addCharacter ..) fun _ => .refl s

theorem keepsRecords_hearOutside (s : State) (gap : Bool) (c : LineChar) : KeepsRecords s (s.hearOutside gap c) :=
  .ite (fun _ => keepsRecords_busyLine s) fun _ =>
    .ite (fun _ => (keepsRecords_collide s).trans (keepsRecords_hearInHunt ..)) fun _ => keepsRecords_hearInHunt ..

/-! ## Requests that write the records -/

/-- Everything that bind can do when it takes a key (R10). -/
theorem bind_eq_ok {s t : State} {key count : Nat} : s.bind key = .ok (t, count) ↔
    ∃ p, findProfile s.profiles key = some p ∧ p.retirePending = false ∧
      t = { s with profiles := replaceProfile s.profiles { p with bindCount := p.bindCount + 1 } } ∧
      count = p.bindCount + 1 := by
  unfold State.bind
  cases findProfile s.profiles key with
  | none => simp
  | some p => cases hr : p.retirePending <;> simp [hr, @eq_comm _ t, @eq_comm _ count]

namespace RecordInvariant

variable {P : State → Prop} (hP : RecordInvariant P)
include hP

theorem createProfile {s : State} {f : ProfileFields} (hs : P s) (v : ValidFields f)
    (hk : findProfile s.profiles f.key = none) (hl : s.profiles.length < 48) : P (s.createProfile f).1 := by
  obtain ⟨hlt, hfree, -⟩ := lowestFreeSlot_spec hl
  exact hP.kept (hP.create (p := { f.filed with
    revision := 0, retirePending := false, bindCount := 0, slot := lowestFreeSlot s.profiles }) hs
    (v.validProfile rfl) rfl rfl hk hlt hfree) ⟨rfl, .inl⟩

theorem replaceRecord {s : State} {p : Profile} {f : ProfileFields} (hs : P s) (v : ValidFields f)
    (hp : findProfile s.profiles f.key = some p) : P (s.replaceRecord p f).1 := by
  have hk : f.key = p.key := (findProfile_key hp).symm
  refine hP.kept (hP.rewrite (q := { p with toProfileFields := f.filed, revision := p.revision + 1 }) hs (hk ▸ hp)
    { key := hk, slot := rfl, bindCount := rfl, retiring := .inl, valid := fun _ => v.validProfile rfl }) ⟨rfl, .inl⟩

theorem pwrite {s : State} (hs : P s) (body : List Byte) : P (takePwrite body s).1 := by
  unfold takePwrite
  split
  · exact hs
  · split
    · exact hs
    · split
      · exact hs
      · split
        · exact hs
        · split
          · exact hs
          · split
            · exact hs
            next b _ _ _ hf =>
              have v := firstFailed_tests_eq_none.1 hf
              unfold State.writeProfile
              split
              next p hp =>
                split
                · exact hs
                · split
                  · exact hs
                  · exact hP.replaceRecord hs v hp
              next hk =>
                split
                · exact hs
                · exact hP.createProfile hs v hk (by omega)

theorem acceptTrim {s : State} {p : Profile} {items : List TrimItem} {f : ProfileFields} (hs : P s)
    (hp : findProfile s.profiles p.key = some p) (hf : p.toProfileFields.trimmed items = .ok f) :
    P (s.acceptTrim p f).1 := by
  have hq : Rewrites p { p with toProfileFields := f, revision := p.revision + 1 } :=
    { key := trimmed_key hf, slot := rfl, bindCount := rfl, retiring := .inl
      valid := fun v => { toValidFields := (v.trimmed hf).1, couplesAscend := (v.trimmed hf).2 } }
  have hm : P { s.setMark p.slot with
      profiles := replaceProfile s.profiles { p with toProfileFields := f, revision := p.revision + 1 } } :=
    hP.kept (hP.rewrite hs hp hq) ⟨rfl, .inl⟩
  exact hP.kept hm ((keepsRecords_trimLanes ..).trans (keepsRecords_reform _))

theorem ptrim {s : State} (hs : P s) (body : List Byte) : P (takePtrim body s).1 := by
  unfold takePtrim
  split
  · exact hs
  · split
    · exact hs
    · split
      · exact hs
      · split
        · exact hs
        · unfold State.trimProfile
          split
          · exact hs
          next p hp =>
            split
            · exact hs
            · split
              · exact hs
              next f hf => exact hP.acceptTrim hs (findProfile_self hp) hf

theorem removeRecord {s : State} {p : Profile} (hs : P s) (hp : findProfile s.profiles p.key = some p)
    (hb : p.bindCount = 0) : P (s.removeRecord p) :=
  hP.kept (hP.remove hs hp hb) ⟨rfl, .inl⟩

theorem pretire {s : State} (hs : P s) (body : List Byte) : P (takePretire body s).1 := by
  unfold takePretire
  split
  · exact hs
  · split
    · split
      · exact hs
      next p hp =>
        have hp := findProfile_self hp
        unfold State.retire
        split
        · exact hs
        · split
          next hb => exact hP.removeRecord hs hp hb
          next hb => exact hP.rewrite hs hp { key := rfl, slot := rfl, bindCount := rfl
                                              retiring := fun _ => .inr (Nat.pos_of_ne_zero hb), valid := fun v => { v with } }
    · exact hs

theorem lthrd {s : State} (hs : P s) (body : List Byte) : P (takeLthrd body s).1 := by
  unfold takeLthrd
  split
  · split
    · exact hs
    next n _ =>
      split
      · exact hs
      next hu =>
        split
        · split
          · exact hs
          next t count hb =>
            obtain ⟨p, hp, hr, rfl, -⟩ := bind_eq_ok.1 hb
            refine hP.kept (hP.thread hs (not_not.1 hu) hp hr) ?_
            exact ((keepsRecords_checkInput ..).trans (keepsRecords_settle ..)).trans (keepsRecords_reform _)
        · exact hs
  · exact hs

theorem lunth {s : State} (hs : P s) (body : List Byte) : P (takeLunth body s).1 := by
  unfold takeLunth
  dsimp only
  split
  · split
    · exact hs
    · split
      · exact hs
      next hu =>
        split
        · exact hs
        · exact hP.kept (hP.unthread hs fun h => hu (.inl h)) ((keepsRecords_settle ..).trans (keepsRecords_reform _))
  · exact hs

theorem takeCalibration {s : State} {v : List Nat} (hs : P s) (hl : v.length = 29)
    (hf : firstFailed (calibrationTests v) = none) : P (s.takeCalibration (.ofValues v)) := by
  have hc : P { s with
      cal := ⟨.ofValues v, true, true⟩
      breaks := PerLane.form fun n => (s.breakInput n).rejudged s.cal.values (.ofValues v) n } :=
    hP.kept (hP.calibrate hs hl hf) ⟨rfl, .inl⟩
  exact hP.kept hc ((keepsRecords_reformLimit _).trans (keepsRecords_judgeAges _))

theorem cwr {s : State} (hs : P s) (body : List Byte) : P (takeCwr body s).1 := by
  unfold takeCwr
  split
  · exact hs
  · split
    · exact hs
    · split
      · exact hs
      next v hv =>
        split
        · exact hs
        next hf =>
          exact hP.kept (hP.takeCalibration hs (readCalibration_length hv) hf) (keepsRecords_reform _)

/-- Every request keeps the invariant. -/
theorem owner {code : Byte} {take : List Byte → State → State × Reply} (ht : ownerOf code = some take) {s : State}
    (hs : P s) (body : List Byte) : P (take body s).1 := by
  obtain ⟨hplook, hplist, hlstat, hdstat, hatrd, hcrd⟩ := takes_nothing body s
  unfold ownerOf at ht
  split at ht <;> cases ht
  · rwa [hplook]
  · rwa [hplist]
  · exact hP.pwrite hs body
  · exact hP.ptrim hs body
  · exact hP.pretire hs body
  · exact hP.lthrd hs body
  · exact hP.lunth hs body
  · exact hP.kept hs (keepsRecords_lspd ..)
  · exact hP.kept hs (keepsRecords_lclr ..)
  · exact hP.kept hs (keepsRecords_lbrk ..)
  · rwa [hlstat]
  · exact hP.kept hs (keepsRecords_dstart ..)
  · exact hP.kept hs (keepsRecords_dstop ..)
  · rwa [hdstat]
  · exact hP.kept hs (keepsRecords_rdg ..)
  · exact hP.kept hs (keepsRecords_beat ..)
  · rwa [hatrd]
  · exact hP.kept hs (keepsRecords_atclr ..)
  · exact hP.kept hs (keepsRecords_atmsk ..)
  · exact hP.kept hs (keepsRecords_pkrd ..)
  · exact hP.kept hs (keepsRecords_scommit ..)
  · rwa [hcrd]
  · exact hP.cwr hs body
  · exact hP.kept hs (keepsRecords_srst ..)
  · exact hP.kept hs (keepsRecords_kstat ..)

/-! ## Frames and characters -/

theorem answerRequest {s : State} (hs : P s) (code : Byte) (body : List Byte) : P (s.answerRequest code body) := by
  unfold State.answerRequest
  split
  next take ht => exact hP.kept (hP.owner ht hs body) (keepsRecords_prepareAnswer ..)
  · exact hP.kept hs (keepsRecords_prepareAnswer ..)

theorem takeBroadcast {s : State} (hs : P s) (code : Byte) (body : List Byte) : P (s.takeBroadcast code body) := by
  unfold State.takeBroadcast
  split
  · split
    next take ht =>
      dsimp only
      split
      · exact hP.kept (hP.owner ht hs body) (keepsRecords_hunt _)
      · exact hP.kept hs (keepsRecords_discard ..)
    · exact hP.kept hs (keepsRecords_discard ..)
  · exact hP.kept hs (keepsRecords_discard ..)

theorem takeFrame {s : State} (hs : P s) (dest : FrameTo) (code : Byte) (body : List Byte) :
    P (s.takeFrame dest code body) := by
  have hi : P (s.setIdle (gapMs s.port.rate)) := hP.kept hs (keepsRecords_setIdle ..)
  unfold State.takeFrame
  cases dest with
  | other => exact hP.kept hi (keepsRecords_hunt _)
  | broadcast => exact hP.takeBroadcast hi code body
  | station =>
    dsimp only
    split
    · exact hP.kept hi (keepsRecords_hunt _)
    · exact hP.answerRequest hi code body

theorem takeHeld {s : State} (hs : P s) : P s.takeHeld := by
  unfold State.takeHeld
  split
  · exact hP.takeFrame hs ..
  · exact hP.kept hs (keepsRecords_hunt _)

theorem hear {s : State} (hs : P s) (c : LineChar) : P (s.hear c) := by
  have hi : P (s.setIdle 0) := hP.kept hs (keepsRecords_setIdle ..)
  unfold State.hear
  split
  · exact hP.kept hs (keepsRecords_busyLine _)
  · dsimp only
    split
    · exact hP.kept hi (keepsRecords_hearOutside ..)
    · exact hP.kept hi (keepsRecords_hearOutside ..)
    · split
      · exact hP.kept hi ((keepsRecords_discard ..).trans (keepsRecords_hearOutside ..))
      · exact hP.kept hi (keepsRecords_addCharacter ..)
    · split
      · exact hP.kept (hP.takeHeld hs) ((keepsRecords_hearOutside ..).trans (keepsRecords_setIdle ..))
      · exact hP.kept hi (keepsRecords_discard ..)

theorem hearAll {s : State} (hs : P s) (cs : List LineChar) : P (cs.foldl State.hear s) := by
  induction cs generalizing s with
  | nil => exact hs
  | cons c cs ih => exact ih (hP.hear hs c)

theorem hearWithin {s : State} (hs : P s) (c : LineChar) : P (s.hearWithin c) := by
  unfold State.hearWithin
  split
  · exact hP.kept hs (keepsRecords_busyLine _)
  · exact hP.hear (hP.kept hs (keepsRecords_setIdle ..)) _

theorem lineIdle {s : State} (hs : P s) : P s.lineIdle := by
  unfold State.lineIdle
  split
  · exact hs
  · split
    · exact hP.kept hs ((keepsRecords_discard ..).trans (keepsRecords_setIdle ..))
    · exact hP.takeHeld hs
    · exact hP.kept hs (keepsRecords_setIdle ..)

theorem frameArrives {s : State} (hs : P s) (dest : FrameTo) (code : Byte) (body : List Byte) :
    P (s.frameArrives dest code body) := by
  have hi := hP.lineIdle hs
  have hc : P (if s.lineIdle.port.state = .answer then s.lineIdle.collide else s.lineIdle) := by
    split
    · exact hP.kept hi (keepsRecords_collide _)
    · exact hi
  unfold State.frameArrives
  dsimp only
  split
  · exact hP.kept hi (keepsRecords_busyLine _)
  · split
    · exact hP.kept hc (keepsRecords_discard ..)
    · exact hP.takeFrame hc ..

/-! ## Commands and steps -/

theorem exec {i : Instr} {s t : State} (hs : P s) (h : Machine.exec i s = .next t) : P t := by
  have next {u : State} (hu : P u) (h : Host.Outcome.next u = (.next t : Host.Outcome State Fault Refusal)) : P t := by
    cases h; exact hu
  have powered {u : State} (h : Host.Outcome.next (if s.powered then u else s) =
      (.next t : Host.Outcome State Fault Refusal)) (hu : KeepsRecords s u) : P t := by
    refine next ?_ h
    split
    · exact hP.kept hs hu
    · exact hs
  cases i
  case stationReset =>
    refine next ?_ h
    split
    · exact hP.kept (hP.boot _ _ hs) (.port ..)
    · exact hs
  case powerOn =>
    refine next (hP.boot _ _ ?_) h
    split
    · exact hP.losePower hs
    · exact hs
  case powerLoss =>
    refine next ?_ h
    split
    · exact hP.losePower hs
    · exact hs
  case frameDiscard => exact next (hP.hearAll hs _) h
  case shortFrame => exact next (hP.lineIdle (hP.hearAll hs _)) h
  case overlongFrame => exact next (hP.hearWithin (hP.hearAll hs _) _) h
  case answerBegin => exact powered h (.ite (fun _ => .port ..) fun _ => .refl s)
  case answerEnd =>
    exact powered h (.ite (fun _ => (keepsRecords_hunt s).trans (keepsRecords_setIdle ..)) fun _ => .refl s)
  case collision event =>
    refine powered h (.ite (fun _ => ?_) fun _ => .refl s)
    cases event with
    | readback => exact .ite (fun _ => keepsRecords_collide s) fun _ => .refl s
    | busyLine =>
      exact .ite (fun _ => .refl s) fun _ => (keepsRecords_collide s).trans (keepsRecords_hearOutside ..)
  case linkFree => exact powered h ((keepsRecords_hunt s).trans (.port ..))
  case linkFreeRelease => exact powered h (.ite (fun _ => .port ..) fun _ => .refl s)
  case evaluation =>
    have he : KeepsRecords s { s with arbiter := { s.arbiter with evalMs := 0 } } := .arbiter ..
    exact powered h (.ite (fun _ => he.trans ((keepsRecords_evaluate _).trans (keepsRecords_reform _))) fun _ => he)
  case encoderWindow n =>
    refine powered h ?_
    exact (KeepsRecords.modLane s n ⟨rfl, .rfl⟩).trans ((keepsRecords_judgeSpeed ..).trans (keepsRecords_reform _))
  case flowWindow => exact powered h ((keepsRecords_flowWindow s).trans (keepsRecords_reform _))
  case purgeFailed =>
    have ho : KeepsRecords s ((s.enterDryer .off).latch .purgeFailed) :=
      (keepsRecords_enterDryer s fun hd => absurd rfl hd).trans (keepsRecords_latch ..)
    refine powered h (.ite (fun _ => ho.trans (.trans (.trans ?_ (keepsRecords_suspendWhere _ rfl))
      (keepsRecords_reform _))) fun _ => .refl s)
    exact .dryerTimes _ rfl
  case cooldownTimeout =>
    refine powered h (.ite (fun _ => (keepsRecords_endCooldown s).trans (.trans ?_ (keepsRecords_reform _)))
      fun _ => .refl s)
    exact .dryerTimes _ rfl
  case residualHoldExpiry n =>
    refine powered h (.ite (fun _ => (KeepsRecords.modLane s n ⟨rfl, ?_⟩).trans (keepsRecords_reform _)) fun _ => .refl s)
    dsimp only
    split
    next hb => simp [hb]
    next => rfl
  case decelGraceExpiry n => exact powered h (.modLane s n ⟨rfl, .rfl⟩)
  case bandLeadTimeout n =>
    exact powered h (.ite (fun _ => (KeepsRecords.modLane s n ⟨rfl, .rfl⟩).trans
      ((keepsRecords_latchLane ..).trans (keepsRecords_reform _))) fun _ => .refl s)
  case readingStale c =>
    have hr : KeepsRecords s (s.setReading c { s.reading c with ageMs := s.staleMs }) := .of_fields
    exact powered h (.ite (fun _ => hr.trans ((keepsRecords_goStale ..).trans (keepsRecords_reform _))) fun _ => .refl s)
  case breakInputChange => exact powered h ⟨rfl, .inl⟩
  case confirmedBreak n =>
    refine powered h ?_
    dsimp only
    split
    · exact (keepsRecords_setBreakInput ..).trans ((keepsRecords_breakLane _ n).trans (keepsRecords_reform _))
    · exact .refl s
  case cadencePhaseEnd =>
    refine powered h ?_
    dsimp only
    split
    · exact ⟨rfl, .inl⟩
    · exact .refl s
  case masterSilent =>
    have hl : KeepsRecords s (({ s with heartbeat := ⟨true, 0, true⟩ } : State).latch .masterSilent) :=
      .trans (.heartbeat ..) (keepsRecords_latch ..)
    exact powered h (.ite (fun _ => hl.trans ((keepsRecords_emptyQueue _).trans
      ((keepsRecords_lowerToCrawl _).trans (keepsRecords_reform _)))) fun _ => .refl s)
  case slotWriteDone =>
    refine powered h ?_
    dsimp only
    split
    · exact (keepsRecords_writeDone ..).trans (keepsRecords_reform _)
    · exact .refl s
  case encoderEdge n _ => exact powered h (.modLane s n ⟨rfl, .rfl⟩)
  case flowPulse => exact powered h (.exhaust ..)
  all_goals exact next (hP.frameArrives hs ..) h

/-- A step keeps the invariant. -/
theorem step {s t : State} (hs : P s) (h : Machine.step s = .next t) : P t := by
  unfold Machine.step at h
  split at h
  · cases h
    exact hP.kept hs (keepsRecords_tick s)
  · exact hP.exec (hP.kept hs .of_fields) h

end RecordInvariant

end Sys2Proof.Machine
end

section
/-! PROOF. Every step keeps the table law (R7), the ranges of the calibration and of the records (R1, R2, R3, R150), and
the binding law (R10, R43). -/

namespace Sys2Proof.Machine

/-! ## Unbinding -/

/-- Everything that unbind can do to a key of the table (R11). -/
theorem unbind_cases {s : State} {k : Nat} {p : Profile} (hp : findProfile s.profiles k = some p) :
    p.retirePending = true ∧ p.bindCount ≤ 1 ∧ s.unbind k = ((s.removeRecord p).latch .profileRetired, 0, true) ∨
      ¬(p.retirePending = true ∧ p.bindCount ≤ 1) ∧
        s.unbind k = ({ s with profiles := replaceProfile s.profiles { p with bindCount := p.bindCount - 1 } },
          p.bindCount - 1, false) := by
  unfold State.unbind
  rw [hp]
  dsimp only
  by_cases h : p.retirePending = true ∧ p.bindCount - 1 = 0
  · exact .inl ⟨h.1, by omega, if_pos h⟩
  · exact .inr ⟨fun h' => h ⟨h'.1, by omega⟩, if_neg h⟩

theorem unbind_none {s : State} {k : Nat} (hp : findProfile s.profiles k = none) : s.unbind k = (s, 0, false) := by
  unfold State.unbind
  rw [hp]

/-! ## The store load -/

/-- What the load of the slots below one leaves in the table (R149). -/
structure LoadedTable (ps : List Profile) (i : Nat) : Prop where
  keysAscend : ps.Pairwise fun p q => p.key < q.key
  slotsDiffer : ps.Pairwise fun p q => p.slot ≠ q.slot
  slotsBelow : ∀ p ∈ ps, p.slot < i
  valid : ∀ p ∈ ps, ValidProfile p
  unbound : ∀ p ∈ ps, p.retirePending = false ∧ p.bindCount = 0

theorem insertProfile_slotsDiffer {p : Profile} {ps : List Profile} (h : ps.Pairwise fun p q => p.slot ≠ q.slot)
    (hp : ∀ q ∈ ps, q.slot ≠ p.slot) : (insertProfile p ps).Pairwise fun p q => p.slot ≠ q.slot :=
  ((insertProfile_perm p ps).pairwise_iff Ne.symm).2 (List.pairwise_cons.2 ⟨fun q hq => (hp q hq).symm, h⟩)

theorem LoadedTable.loadSlot {r : List Profile × Nat} {i : Nat} (l : LoadedTable r.1 i)
    (c : SlotContent ProfileImage) : LoadedTable (loadSlot r i c).1 (i + 1) := by
  have hnext : LoadedTable r.1 (i + 1) := { l with slotsBelow := fun p hp => (l.slotsBelow p hp).trans (Nat.lt_succ_self i) }
  unfold Machine.loadSlot
  split
  · exact hnext
  · exact hnext
  next image _ =>
    split
    next h =>
      simp only [Bool.and_eq_true, Option.isNone_iff_eq_none, firstFailed_tests_eq_none] at h
      obtain ⟨v, hk⟩ := h
      have hb := l.slotsBelow
      exact
        { keysAscend := insertProfile_ascending l.keysAscend hk
          slotsDiffer := insertProfile_slotsDiffer l.slotsDiffer fun q hq => (hb q hq).ne
          slotsBelow := fun p hp => (mem_insertProfile.1 hp).elim (fun h => h ▸ Nat.lt_succ_self i) (hnext.slotsBelow p)
          valid := fun p hp => (mem_insertProfile.1 hp).elim (fun h => h ▸ v.validProfile rfl) (l.valid p)
          unbound := fun p hp => (mem_insertProfile.1 hp).elim (fun h => h ▸ ⟨rfl, rfl⟩) (l.unbound p) }
    · exact hnext

theorem LoadedTable.loadSlots {r : List Profile × Nat} {i : Nat} (l : LoadedTable r.1 i)
    (cs : List (SlotContent ProfileImage)) : LoadedTable (loadSlots r i cs).1 (i + cs.length) := by
  induction cs generalizing r i with
  | nil => exact l
  | cons c cs ih =>
    rw [List.length_cons, Nat.add_comm cs.length, ← Nat.add_assoc]
    exact ih (l.loadSlot c)

theorem loadedTable_of_slots (cs : List (SlotContent ProfileImage)) :
    LoadedTable (loadSlots ([], 0) 0 cs).1 cs.length := by
  have h : LoadedTable [] 0 := ⟨.nil, .nil, by simp, by simp, by simp⟩
  simpa using h.loadSlots (r := ([], 0)) cs

/-- What a store load leaves (R149, R150): every block at its reset values, the table and the calibration of the
store. -/
theorem State.boot_records (s : State) (straps : Straps) (levels : PerLane Bool) :
    (s.boot straps levels).profiles = (loadSlots ([], 0) 0 s.store.slots).1 ∧
      (s.boot straps levels).cal = loadCalibration s.store.calibration ∧
      (s.boot straps levels).store = s.store ∧ (s.boot straps levels).dryer.state = .off ∧
      ∀ n, (s.boot straps levels).lane n = .fresh := by
  unfold State.boot State.latchLost State.lane
  dsimp only
  split <;> refine ⟨by simp, by simp, by simp [State.fresh], by simp [State.fresh], fun n => ?_⟩ <;>
    cases n <;> simp [State.fresh, PerLane.get]

theorem State.cutWrite_storeSize (s : State) : s.cutWrite.store.slots.length = s.store.slots.length := by
  unfold State.cutWrite
  split
  · split
    · simp [State.stepFree, State.setSlot]
    · rfl
  · rfl

/-! ## The table law -/

/-- The table law speaks of the table and of the size of the store. -/
theorem TableLaw.congr {s t : State} (l : TableLaw s) (hp : t.profiles = s.profiles)
    (hs : t.store.slots.length = s.store.slots.length) : TableLaw t where
  keysAscend := hp ▸ l.keysAscend
  slotsDiffer := hp ▸ l.slotsDiffer
  slotsBelow := hp ▸ l.slotsBelow
  storeSize := hs.trans l.storeSize

/-- A record in the place of one of its key and slot index. -/
theorem TableLaw.replace {s : State} (l : TableLaw s) {p q : Profile} (hp : findProfile s.profiles q.key = some p)
    (hs : q.slot = p.slot) : TableLaw { s with profiles := replaceProfile s.profiles q } where
  keysAscend := replaceProfile_ascending q l.keysAscend
  slotsDiffer := by
    have h : (s.profiles.map (·.slot)).Pairwise (· ≠ ·) := List.pairwise_map.2 l.slotsDiffer
    exact List.pairwise_map.1 (replaceProfile_slots l.keysAscend hp hs ▸ h)
  slotsBelow := fun r hr => by
    rcases mem_replaceProfile hr with rfl | ⟨hr, -⟩
    · exact hs ▸ l.slotsBelow p (findProfile_mem hp)
    · exact l.slotsBelow r hr
  storeSize := l.storeSize

theorem TableLaw.remove {s : State} (l : TableLaw s) (k : Nat) :
    TableLaw { s with profiles := removeProfile s.profiles k } where
  keysAscend := l.keysAscend.filter _
  slotsDiffer := l.slotsDiffer.filter _
  slotsBelow := fun p hp => l.slotsBelow p (mem_removeProfile.1 hp).1
  storeSize := l.storeSize

theorem TableLaw.unbind {s : State} (l : TableLaw s) (k : Nat) : TableLaw (s.unbind k).1 := by
  cases hp : findProfile s.profiles k with
  | none => rw [unbind_none hp]; exact l
  | some p =>
    rcases unbind_cases hp with ⟨-, -, h⟩ | ⟨-, h⟩ <;> rw [h]
    · exact (l.remove p.key).congr (State.latch_profiles ..) (by simp [State.removeRecord])
    · exact l.replace (p := p) (q := { p with bindCount := p.bindCount - 1 }) (findProfile_self hp) rfl

theorem tableLaw_invariant : RecordInvariant TableLaw where
  kept l h := l.congr h.profiles h.storeSize
  create {s p} l _ _ _ hk hs hd :=
    { keysAscend := insertProfile_ascending l.keysAscend hk
      slotsDiffer := insertProfile_slotsDiffer l.slotsDiffer hd
      slotsBelow := fun q hq => (mem_insertProfile.1 hq).elim (fun h => h ▸ hs) (l.slotsBelow q)
      storeSize := l.storeSize }
  rewrite l hp hr := l.replace (hr.key ▸ hp) hr.slot
  remove l _ _ := l.remove _
  thread {s n k p} l _ hp _ :=
    (l.replace (p := p) (q := { p with bindCount := p.bindCount + 1 }) (findProfile_self hp) rfl).congr rfl rfl
  unthread {s n} l _ := by
    have h : TableLaw ((s.removeTarget n).modLane n fun l => l.unthread s.graceMs) := l.congr rfl rfl
    exact h.unbind _
  calibrate l _ _ := l.congr rfl rfl
  boot {s} straps levels l := by
    obtain ⟨hp, -, hs, -⟩ := s.boot_records straps levels
    have hl := loadedTable_of_slots s.store.slots
    exact { keysAscend := hp ▸ hl.keysAscend, slotsDiffer := hp ▸ hl.slotsDiffer
            slotsBelow := hp ▸ fun p h => l.storeSize ▸ hl.slotsBelow p h
            storeSize := hs ▸ l.storeSize }
  losePower {s} l :=
    { keysAscend := .nil, slotsDiffer := .nil, slotsBelow := fun _ h => (List.not_mem_nil h).elim
      storeSize := s.cutWrite_storeSize.trans l.storeSize }

/-! ## The ranges -/

/-- A list of calibration values passes every test where each passes its own. -/
theorem mem_calibrationTestsFrom {qMax qMin i k x : Nat} {v : List Nat} (h : v[k]? = some x) :
    (i + k, calibrationTest qMax qMin (i + k) x) ∈ calibrationTestsFrom qMax qMin i v := by
  induction v generalizing i k with
  | nil => simp at h
  | cons y ys ih =>
    cases k with
    | zero => cases h; exact List.mem_cons_self
    | succ k =>
      rw [← Nat.add_assoc, Nat.add_right_comm]
      exact List.mem_cons_of_mem _ (ih (by simpa using h))

theorem calibrationTest_of_pass {v : List Nat} (hf : firstFailed (calibrationTests v) = none) {k : Nat}
    (hk : k < v.length) : calibrationTest (v.getD 4 0) (v.getD 5 0) (1 + k) (v.getD k 0) = true := by
  have hm := mem_calibrationTestsFrom (qMax := v.getD 4 0) (qMin := v.getD 5 0) (i := 1) (List.getElem?_eq_getElem hk)
  rw [List.getD_eq_getElem _ _ hk]
  by_contra hn
  exact firstFailed_eq_none.1 hf _ (by rwa [Bool.not_eq_true _ |>.mp hn] at hm)

theorem flagValue_beq_one {v : Nat} (h : v ≤ 1) : flagValue (v == 1) = v := by
  interval_cases v <;> rfl

/-- A block of 29 values that passes the tests of CWR is the block of the calibration that it makes. -/
theorem toValues_ofValues {v : List Nat} (hl : v.length = 29) (hf : firstFailed (calibrationTests v) = none) :
    (Calibration.ofValues v).toValues = v := by
  have flag (k : Nat) (hk : k < 29) (h : k = 3 ∨ k = 24 ∨ k = 25 ∨ k = 26 ∨ k = 27) : v.getD k 0 ≤ 1 := by
    have := calibrationTest_of_pass hf (hl ▸ hk)
    rcases h with rfl | rfl | rfl | rfl | rfl <;> simpa [calibrationTest] using this
  have h3 := flagValue_beq_one (flag 3 (by decide) (by decide))
  have h24 := flagValue_beq_one (flag 24 (by decide) (by decide))
  have h25 := flagValue_beq_one (flag 25 (by decide) (by decide))
  have h26 := flagValue_beq_one (flag 26 (by decide) (by decide))
  have h27 := flagValue_beq_one (flag 27 (by decide) (by decide))
  match v, hl, h3, h24, h25, h26, h27 with
  | [a1, a2, a3, a4, a5, a6, a7, a8, a9, a10, a11, a12, a13, a14, a15,
      a16, a17, a18, a19, a20, a21, a22, a23, a24, a25, a26, a27, a28, a29], _, h3, h24, h25, h26, h27 =>
    simp only [List.getD_eq_getElem?_getD, List.getElem?_cons_succ, List.getElem?_cons_zero, Option.getD_some] at *
    simp [Calibration.toValues, Calibration.ofValues, *]

/-- The ranges that a step keeps: of the calibration and of every record (R1, R2, R3, R150). -/
def RangesLaw (s : State) : Prop := CalibrationLaw s ∧ ProfilesLaw s

/-- A calibration whose block passes the tests of CWR has its crawl speed and its ramp step in range. -/
theorem ofValues_ranges {v : List Nat} (hl : v.length = 29) (hf : firstFailed (calibrationTests v) = none) :
    (10 ≤ (Calibration.ofValues v).crawl ∧ (Calibration.ofValues v).crawl ≤ 60 ∧ (Calibration.ofValues v).crawl % 5 = 0) ∧
      5 ≤ (Calibration.ofValues v).rampStep ∧ (Calibration.ofValues v).rampStep ≤ 200 ∧
        (Calibration.ofValues v).rampStep % 5 = 0 := by
  have h14 := calibrationTest_of_pass hf (k := 14) (by omega)
  have h15 := calibrationTest_of_pass hf (k := 15) (by omega)
  simp only [calibrationTest, Nat.reduceAdd, Bool.and_eq_true, within_eq_true, beq_iff_eq] at h14 h15
  exact ⟨⟨h14.1.1, h14.1.2, h14.2⟩, h15.1.1, h15.1.2, h15.2⟩

/-- A calibration that passed the tests of CWR, or the invalid default in OFF. -/
theorem CalibrationLaw.of_tests {s : State} {v : List Nat} (hl : v.length = 29)
    (hf : firstFailed (calibrationTests v) = none) (hv : s.cal.values = .ofValues v) (hvalid : s.cal.valid = true) :
    CalibrationLaw s where
  inRange _ := by rw [hv, toValues_ofValues hl hf]; exact hf
  validOutsideOff _ := hvalid
  crawlRange := hv ▸ (ofValues_ranges hl hf).1
  rampRange := hv ▸ (ofValues_ranges hl hf).2

theorem CalibrationLaw.of_default {s : State} (hc : s.cal = ⟨.default, false, false⟩) (hd : s.dryer.state = .off) :
    CalibrationLaw s where
  inRange h := by simp [hc] at h
  validOutsideOff h := absurd hd h
  crawlRange := by rw [hc]; decide
  rampRange := by rw [hc]; decide

theorem CalibrationLaw.congr {s t : State} (l : CalibrationLaw s) (hv : t.cal.values = s.cal.values)
    (hb : t.cal.valid = s.cal.valid) (hd : t.dryer.state ≠ .off → s.dryer.state ≠ .off ∨ s.cal.valid = true) :
    CalibrationLaw t where
  inRange h := hv ▸ l.inRange (hb ▸ h)
  validOutsideOff h := hb ▸ (hd h).elim l.validOutsideOff id
  crawlRange := hv ▸ l.crawlRange
  rampRange := hv ▸ l.rampRange

theorem calibrationLaw_boot (s : State) (straps : Straps) (levels : PerLane Bool) :
    CalibrationLaw (s.boot straps levels) := by
  obtain ⟨-, hc, -, hd, -⟩ := s.boot_records straps levels
  unfold loadCalibration at hc
  split at hc
  · split at hc
    next v _ hg =>
      simp only [goodBlock, Bool.and_eq_true, beq_iff_eq, Option.isNone_iff_eq_none] at hg
      exact .of_tests hg.1 hg.2 (by rw [hc]) (by rw [hc])
    · exact .of_default hc hd
  · exact .of_default hc hd

/-- A record with another bind count has the same fields. -/
theorem ValidProfile.bound {p : Profile} (v : ValidProfile p) (k : Nat) : ValidProfile { p with bindCount := k } :=
  { v with }

theorem ProfilesLaw.replace {s t : State} (l : ProfilesLaw s) {q : Profile}
    (ht : t.profiles = replaceProfile s.profiles q) (hq : ValidProfile q) : ProfilesLaw t := fun r hr => by
  rcases mem_replaceProfile (ht ▸ hr) with rfl | ⟨hr, -⟩
  · exact hq
  · exact l r hr

theorem ProfilesLaw.remove {s t : State} (l : ProfilesLaw s) {k : Nat}
    (ht : t.profiles = removeProfile s.profiles k) : ProfilesLaw t :=
  fun q hq => l q (mem_removeProfile.1 (ht ▸ hq)).1

theorem ProfilesLaw.unbind {s : State} (l : ProfilesLaw s) (k : Nat) : ProfilesLaw (s.unbind k).1 := by
  cases hp : findProfile s.profiles k with
  | none => rw [unbind_none hp]; exact l
  | some p =>
    rcases unbind_cases hp with ⟨-, -, h⟩ | ⟨-, h⟩ <;> rw [h]
    · exact l.remove (State.latch_profiles ..)
    · exact l.replace (q := { p with bindCount := p.bindCount - 1 }) rfl ((l p (findProfile_mem hp)).bound _)

theorem unbind_cal (s : State) (k : Nat) : (s.unbind k).1.cal = s.cal ∧ (s.unbind k).1.dryer = s.dryer := by
  cases hp : findProfile s.profiles k with
  | none => rw [unbind_none hp]; exact ⟨rfl, rfl⟩
  | some p => rcases unbind_cases hp with ⟨-, -, h⟩ | ⟨-, h⟩ <;> rw [h] <;> simp [State.removeRecord]

theorem rangesLaw_invariant : RecordInvariant RangesLaw where
  kept l h := ⟨l.1.congr h.calibration h.calValid h.dryer, fun p hp => l.2 p (h.profiles ▸ hp)⟩
  create l hv _ _ _ _ _ :=
    ⟨l.1.congr rfl rfl .inl, fun q hq => (mem_insertProfile.1 hq).elim (fun h => h ▸ hv) (l.2 q)⟩
  rewrite l hp hr := ⟨l.1.congr rfl rfl .inl, l.2.replace rfl (hr.valid (l.2 _ (findProfile_mem hp)))⟩
  remove l _ _ := ⟨l.1.congr rfl rfl .inl, l.2.remove rfl⟩
  thread {s n k p} l _ hp _ :=
    ⟨l.1.congr rfl rfl .inl, l.2.replace (q := { p with bindCount := p.bindCount + 1 }) rfl
      ((l.2 p (findProfile_mem hp)).bound _)⟩
  unthread {s n} l _ := by
    obtain ⟨hc, hd⟩ := unbind_cal ((s.removeTarget n).modLane n fun l => l.unthread s.graceMs) ((s.lane n).key.getD 0)
    have hl : ProfilesLaw ((s.removeTarget n).modLane n fun l => l.unthread s.graceMs) := l.2
    exact ⟨l.1.congr (by rw [hc]; rfl) (by rw [hc]; rfl) (by rw [hd]; exact .inl), hl.unbind _⟩
  calibrate l hl hf := ⟨.of_tests hl hf rfl rfl, l.2⟩
  boot {s} straps levels l := by
    obtain ⟨hp, -⟩ := s.boot_records straps levels
    exact ⟨calibrationLaw_boot .., fun p h => (loadedTable_of_slots _).valid p (hp ▸ h)⟩
  losePower l := ⟨.of_default rfl rfl, fun _ h => (List.not_mem_nil h).elim⟩

/-! ## The binding law -/

/-- One where a lane carries a key, else nothing. -/
def Lane.carries (l : Lane) (k : Nat) : Nat := if l.key = some k then 1 else 0

/-- The lanes that carry a key, lane by lane. -/
theorem lanesBound_eq (s : State) (k : Nat) : s.lanesBound k =
    (s.lane .one).carries k + (s.lane .two).carries k + (s.lane .three).carries k + (s.lane .four).carries k := by
  unfold State.lanesBound LaneId.all Lane.carries
  simp only [List.filter_cons, List.filter_nil, beq_iff_eq]
  split <;> split <;> split <;> split <;> rfl

/-- Where one lane's key changes, the lanes that carry a key change by that lane alone. -/
theorem lanesBound_change {s t : State} {n : LaneId} (h : ∀ m, m ≠ n → (t.lane m).key = (s.lane m).key) (k : Nat) :
    t.lanesBound k + (s.lane n).carries k = s.lanesBound k + (t.lane n).carries k := by
  have hc (m : LaneId) (hm : m ≠ n) : (t.lane m).carries k = (s.lane m).carries k := by
    unfold Lane.carries; rw [h m hm]
  rw [lanesBound_eq, lanesBound_eq]
  cases n
  case one => rw [hc .two (by decide), hc .three (by decide), hc .four (by decide)]; omega
  case two => rw [hc .one (by decide), hc .three (by decide), hc .four (by decide)]; omega
  case three => rw [hc .one (by decide), hc .two (by decide), hc .four (by decide)]; omega
  case four => rw [hc .one (by decide), hc .two (by decide), hc .three (by decide)]; omega

theorem lanesBound_congr {s t : State} (h : ∀ n, (t.lane n).key = (s.lane n).key) (k : Nat) :
    t.lanesBound k = s.lanesBound k := by unfold State.lanesBound; simp only [h]

theorem lanesBound_eq_zero {s : State} {k : Nat} : s.lanesBound k = 0 ↔ ∀ n, (s.lane n).key ≠ some k := by
  simp only [State.lanesBound, List.length_eq_zero_iff, List.filter_eq_nil_iff, beq_iff_eq]
  exact ⟨fun h n => h n (by cases n <;> decide), fun h n _ => h n⟩

/-- The table law and the binding law together, which a step keeps. -/
def BoundTable (s : State) : Prop := TableLaw s ∧ BindingLaw s

section
variable {s t : State} (l : BindingLaw s)
include l

/-- The lanes' keys stay, and the table's look-ups and bind counts agree with them. -/
theorem BindingLaw.of_keys (hk : ∀ n, (t.lane n).key = (s.lane n).key)
    (hu : ∀ n, (t.lane n).state = .unthreaded ↔ (s.lane n).state = .unthreaded)
    (hf : ∀ n k, (s.lane n).key = some k → (findProfile t.profiles k).isSome)
    (hp : ∀ q ∈ t.profiles, q.bindCount = s.lanesBound q.key ∧ (q.retirePending = true → 1 ≤ q.bindCount)) :
    BindingLaw t where
  keyed n := by rw [hk, hu]; exact l.keyed n
  present n k h := hf n k (hk n ▸ h)
  counted q hq := by rw [lanesBound_congr hk]; exact (hp q hq).1
  retiring q hq := (hp q hq).2

theorem BindingLaw.pair {q : Profile} (hq : q ∈ s.profiles) :
    q.bindCount = s.lanesBound q.key ∧ (q.retirePending = true → 1 ≤ q.bindCount) := ⟨l.counted q hq, l.retiring q hq⟩

end

/-- A replaced record keeps every key in the table. -/
theorem findProfile_replaceProfile_isSome {ps : List Profile} {q : Profile} (hq : (findProfile ps q.key).isSome)
    {k : Nat} (h : (findProfile ps k).isSome) : (findProfile (replaceProfile ps q) k).isSome := by
  by_cases hk : k = q.key
  · rw [hk, findProfile_replaceProfile_same hq]; rfl
  · rwa [findProfile_replaceProfile_other ps hk]

theorem BindingLaw.fresh {s : State} (hl : ∀ n, s.lane n = .fresh)
    (hp : ∀ p ∈ s.profiles, p.retirePending = false ∧ p.bindCount = 0) : BindingLaw s where
  keyed n := by rw [hl]; simp [Lane.fresh]
  present n k h := by rw [hl] at h; cases h
  counted p h := by
    rw [(hp p h).2, eq_comm, lanesBound_eq_zero]
    intro n hn
    rw [hl] at hn; cases hn
  retiring p h hr := by rw [(hp p h).1] at hr; cases hr

/-- A lane that takes a key: the record of the key has one lane more (R10). -/
theorem BindingLaw.thread {s : State} {n : LaneId} {k : Nat} {p : Profile} (l : BindingLaw s)
    (hu : (s.lane n).state = .unthreaded) (hp : findProfile s.profiles k = some p) :
    BindingLaw (({ s with profiles := replaceProfile s.profiles { p with bindCount := p.bindCount + 1 } } : State).modLane n
      fun l => l.threaded k) := by
  set q : Profile := { p with bindCount := p.bindCount + 1 }
  set t : State := ({ s with profiles := replaceProfile s.profiles q } : State).modLane n fun l => l.threaded k
  have hk : q.key = k := findProfile_key (p := p) hp
  have hfind : (findProfile s.profiles q.key).isSome := by rw [hk, hp]; rfl
  have same : t.lane n = (s.lane n).threaded k := State.lane_modLane_same ..
  have other {m : LaneId} (hm : m ≠ n) : t.lane m = s.lane m := State.lane_modLane_other _ _ hm
  have hnone : (s.lane n).key = none := (l.keyed n).2 hu
  have bound (j : Nat) : t.lanesBound j = s.lanesBound j + if j = k then 1 else 0 := by
    have := lanesBound_change (s := s) (t := t) (fun m hm => by rw [other hm]) j
    simpa [Lane.carries, hnone, same, Lane.threaded, @eq_comm _ k] using this
  refine { keyed := fun m => ?_, present := fun m j hj => ?_, counted := fun r hr' => ?_, retiring := fun r hr' h => ?_ }
  · by_cases hm : m = n
    · subst hm; rw [same]; simp [Lane.threaded]
    · rw [other hm]; exact l.keyed m
  · refine findProfile_replaceProfile_isSome hfind ?_
    by_cases hm : m = n
    · subst hm
      rw [same] at hj
      cases hj
      rw [hp]; rfl
    · exact l.present m j (other hm ▸ hj)
  · rw [bound]
    rcases mem_replaceProfile hr' with rfl | ⟨hr', hne⟩
    · rw [if_pos hk, hk, ← findProfile_key hp, ← l.counted p (findProfile_mem hp)]
    · rw [if_neg (hk ▸ hne), l.counted r hr', Nat.add_zero]
  · rcases mem_replaceProfile hr' with rfl | ⟨hr', -⟩
    · exact Nat.succ_pos _
    · exact l.retiring r hr' h

/-- The lane that carried a key is UNTHREADED now; the table and the other lanes are as they were. -/
structure GivesBack (s t : State) (n : LaneId) (k : Nat) : Prop where
  had : (s.lane n).key = some k
  key : (t.lane n).key = none
  state : (t.lane n).state = .unthreaded
  other : ∀ m, m ≠ n → t.lane m = s.lane m
  profiles : t.profiles = s.profiles

theorem givesBack_unthread {s : State} {n : LaneId} {k : Nat} (h : (s.lane n).key = some k) :
    GivesBack s ((s.removeTarget n).modLane n fun l => l.unthread s.graceMs) n k where
  had := h
  key := by rw [State.lane_modLane_same]; rfl
  state := by rw [State.lane_modLane_same]; rfl
  other m hm := by rw [State.lane_modLane_other _ _ hm, State.lane_removeTarget_other _ hm]
  profiles := rfl

section
variable {s t : State} {n : LaneId} {k : Nat} (g : GivesBack s t n k) (l : BindingLaw s)
include g

theorem GivesBack.carried {m : LaneId} {j : Nat} (hj : (t.lane m).key = some j) : (s.lane m).key = some j := by
  by_cases hm : m = n
  · rw [hm, g.key] at hj; cases hj
  · exact g.other m hm ▸ hj

theorem GivesBack.bound (j : Nat) : t.lanesBound j + (if j = k then 1 else 0) = s.lanesBound j := by
  have := lanesBound_change (s := s) (t := t) (fun m hm => by rw [g.other m hm]) j
  simpa [Lane.carries, g.had, g.key, @eq_comm _ k] using this

include l

theorem GivesBack.keyed (m : LaneId) : (t.lane m).key = none ↔ (t.lane m).state = .unthreaded := by
  by_cases hm : m = n
  · rw [hm]; exact iff_of_true g.key g.state
  · rw [g.other m hm]; exact l.keyed m

/-- The record of the key has one lane less, and leaves the table where it retires and that was the last (R11). -/
theorem BindingLaw.unbind : BindingLaw (t.unbind k).1 := by
  obtain ⟨p, hp⟩ := Option.isSome_iff_exists.1 (l.present n k g.had)
  have hpk : p.key = k := findProfile_key hp
  have hcount : p.bindCount = t.lanesBound k + 1 := by
    rw [l.counted p (findProfile_mem hp), hpk, ← g.bound, if_pos rfl]
  rcases unbind_cases (s := t) (by rwa [g.profiles]) with ⟨-, h1, h⟩ | ⟨h1, h⟩ <;> rw [h]
  · have hz : ∀ m, (t.lane m).key ≠ some k := lanesBound_eq_zero.1 (by omega)
    have hlanes (m : LaneId) : ((t.removeRecord p).latch .profileRetired).lane m = t.lane m := by
      rw [State.lane_latch]; rfl
    have htable : ((t.removeRecord p).latch .profileRetired).profiles = removeProfile s.profiles k := by
      rw [State.latch_profiles, ← hpk, ← g.profiles]; rfl
    refine { keyed := fun m => by rw [hlanes]; exact g.keyed l m, present := fun m j hj => ?_
             counted := fun r hr => ?_, retiring := fun r hr => ?_ }
    · rw [hlanes] at hj
      rw [htable, findProfile_removeProfile_other _ fun e : j = k => hz m (e ▸ hj)]
      exact l.present m j (g.carried hj)
    · obtain ⟨hr, hne⟩ := mem_removeProfile.1 (htable ▸ hr)
      rw [lanesBound_congr fun m => congrArg Lane.key (hlanes m), l.counted r hr, ← g.bound, if_neg hne]; rfl
    · exact l.retiring r (mem_removeProfile.1 (htable ▸ hr)).1
  · refine { keyed := g.keyed l, present := fun m j hj => ?_, counted := fun r hr => ?_, retiring := fun r hr hret => ?_ }
    · exact findProfile_replaceProfile_isSome (q := { p with bindCount := p.bindCount - 1 })
        (by rw [g.profiles, show findProfile s.profiles p.key = some p from findProfile_self hp]; rfl)
        (g.profiles ▸ l.present m j (g.carried hj))
    · change r.bindCount = t.lanesBound r.key
      rcases mem_replaceProfile hr with rfl | ⟨hr, hne⟩
      · show p.bindCount - 1 = t.lanesBound p.key
        rw [hpk]; omega
      · have hne : r.key ≠ k := hpk ▸ hne
        rw [l.counted r (g.profiles ▸ hr), ← g.bound, if_neg hne]; rfl
    · rcases mem_replaceProfile hr with rfl | ⟨hr, -⟩
      · have : ¬p.bindCount ≤ 1 := fun h => h1 ⟨hret, h⟩
        show 1 ≤ p.bindCount - 1
        omega
      · exact l.retiring r (g.profiles ▸ hr) hret

end

theorem BindingLaw.unthread {s : State} {n : LaneId} (l : BindingLaw s) (hu : (s.lane n).state ≠ .unthreaded) :
    BindingLaw (((s.removeTarget n).modLane n fun l => l.unthread s.graceMs).unbind ((s.lane n).key.getD 0)).1 := by
  obtain ⟨k, hk⟩ := Option.ne_none_iff_exists'.1 fun h => hu ((l.keyed n).1 h)
  rw [hk]
  exact l.unbind (givesBack_unthread hk)

theorem boundTable_invariant : RecordInvariant BoundTable where
  kept l h := ⟨tableLaw_invariant.kept l.1 h, l.2.of_keys h.key h.unthreaded
    (fun n k hk => h.profiles ▸ l.2.present n k hk) fun q hq => l.2.pair (h.profiles ▸ hq)⟩
  create {s p} l hv hr hb hk hs hd := by
    refine ⟨tableLaw_invariant.create l.1 hv hr hb hk hs hd, l.2.of_keys (fun _ => rfl) (fun _ => .rfl)
      (fun n k h => ?_) fun q hq => ?_⟩
    · have hne : k ≠ p.key := fun e => by have := l.2.present n k h; rw [e, hk] at this; cases this
      rw [findProfile_insertProfile_other _ hne]
      exact l.2.present n k h
    · rcases mem_insertProfile.1 hq with rfl | hq
      · refine ⟨?_, fun h => by rw [hr] at h; cases h⟩
        rw [hb, eq_comm, lanesBound_eq_zero]
        intro n hn
        have := l.2.present n _ hn
        rw [hk] at this; cases this
      · exact l.2.pair hq
  rewrite {s p q} l hp hr := by
    refine ⟨tableLaw_invariant.rewrite l.1 hp hr, l.2.of_keys (fun _ => rfl) (fun _ => .rfl)
      (fun n k h => findProfile_replaceProfile_isSome (by rw [hr.key, hp]; rfl) (l.2.present n k h)) fun r hr' => ?_⟩
    rcases mem_replaceProfile hr' with rfl | ⟨hq, -⟩
    · have hpair := l.2.pair (findProfile_mem hp)
      exact ⟨by rw [hr.bindCount, hr.key]; exact hpair.1, fun h => hr.bindCount ▸ (hr.retiring h).elim hpair.2 id⟩
    · exact l.2.pair hq
  remove {s p} l hp hb := by
    refine ⟨tableLaw_invariant.remove l.1 hp hb, l.2.of_keys (fun _ => rfl) (fun _ => .rfl)
      (fun n k h => ?_) fun q hq => l.2.pair (mem_removeProfile.1 hq).1⟩
    have hz : s.lanesBound p.key = 0 := (l.2.counted p (findProfile_mem hp)).symm.trans hb
    have hne : k ≠ p.key := fun e => lanesBound_eq_zero.1 hz n (e ▸ h)
    rw [findProfile_removeProfile_other _ hne]
    exact l.2.present n k h
  thread l hu hp hr := ⟨tableLaw_invariant.thread l.1 hu hp hr, l.2.thread hu hp⟩
  unthread l hu := ⟨tableLaw_invariant.unthread l.1 hu, l.2.unthread hu⟩
  calibrate l hl hf := ⟨tableLaw_invariant.calibrate l.1 hl hf, l.2.of_keys (fun _ => rfl) (fun _ => .rfl)
    l.2.present fun _ => l.2.pair⟩
  boot {s} straps levels l := by
    obtain ⟨hp, -, -, -, hl⟩ := s.boot_records straps levels
    exact ⟨tableLaw_invariant.boot straps levels l.1,
      .fresh hl fun p h => (loadedTable_of_slots s.store.slots).unbound p (hp ▸ h)⟩
  losePower l := ⟨tableLaw_invariant.losePower l.1, .fresh (fun n => by cases n <;> rfl)
    fun _ h => (List.not_mem_nil h).elim⟩

/-! ## The statements -/

/-- Settles O5: the table law is an invariant of the records. -/
theorem tableLawKept : Obligations.TableLawKept := fun _ _ => tableLaw_invariant.step

/-- Settles O6: the ranges of the calibration and of the records are an invariant of the records. -/
theorem rangesKept : Obligations.RangesKept := fun _ _ l => rangesLaw_invariant.step ⟨l.calibration, l.profiles⟩

/-- Settles O7: the binding law is, together with the table law, an invariant of the records. -/
theorem bindingLawKept : Obligations.BindingLawKept := fun _ _ l h =>
  (boundTable_invariant.step ⟨l.table, l.binding⟩ h).2

/-- Settles O3: the records of the reset state, each as its definition gives it. -/
theorem resetState : Obligations.ResetState := by
  refine ⟨fun n => ?_, fun c => ?_, by decide⟩
  · cases n <;> exact ⟨rfl, rfl, rfl, rfl, rfl, rfl, rfl, rfl, rfl, rfl, rfl, rfl, rfl, rfl, rfl, fun z => by cases z <;> rfl⟩
  · cases c with
    | zone n z => cases n <;> cases z <;> rfl
    | webExit n => cases n <;> rfl
    | chillExit n => cases n <;> rfl
    | analyzer => rfl
    | chillWater => rfl

theorem lane_reset (n : LaneId) : State.reset.lane n = .fresh := by cases n <;> rfl

/-- Settles O4: no lane is bound, no cause is latched and the calibration is the invalid default. -/
theorem lawfulAtReset : Obligations.LawfulAtReset where
  calibration := .of_default rfl rfl
  table := ⟨.nil, .nil, fun _ h => (List.not_mem_nil h).elim, rfl⟩
  profiles := fun _ h => (List.not_mem_nil h).elim
  binding := .fresh lane_reset fun _ h => (List.not_mem_nil h).elim
  speed := by
    constructor <;> intro n <;> simp [lane_reset, Lane.fresh]
  queue := by
    refine ⟨.nil, fun n => ?_, fun n h => (List.not_mem_nil h).elim, fun n t h => ?_, fun _ => rfl, fun n d h => ?_⟩
    · exact iff_of_false List.not_mem_nil (by simp [lane_reset, Lane.fresh])
    · rw [lane_reset] at h; cases h
    · rw [lane_reset] at h; cases h
  lane := by
    constructor <;> intro n <;> simp [lane_reset, Lane.fresh]
  inBand := by
    constructor <;> intro n <;> simp [State.zonesInBand, lane_reset, Lane.fresh, Lane.isLeading]
  figures := ⟨rfl, rfl, by decide⟩
  horn := ⟨rfl, fun h => by cases h⟩
  counts := ⟨by decide, by decide, by decide, by decide, by decide⟩

end Sys2Proof.Machine
end

section
/-! PROOF. How a listening port answers a request, and the requests of chapter 1 that look up, list and retire records:
PLOOK (R14), PLIST (R15), PRETIRE (R23), and the answers while a commit is in flight (R13, R147, R152). -/

namespace Sys2Proof.Machine

/-! ## A request that is taken -/

/-- The state in which the owner of a request takes it: the line has been idle for 4 character times. -/
def State.taking (s : State) : State := s.setIdle (gapMs s.port.rate)

section
variable {s : State} {c : Instr} {code : Byte} {body : List Byte} {take : List Byte → State → State × Reply} {r : Reply}

/-- A request of a code of the table is taken by its owner and answered. -/
theorem ListeningAt.exec_request (h : ListeningAt s) (hc : exec c s = s.requestArrives code body)
    (ho : ownerOf code = some take) (hb : body.length ≤ 96) {t : State} (ht : take body s.taking = (t, r)) :
    exec c s = .next (t.prepareAnswer code r) := by
  rw [hc, h.requestArrives code hb]
  unfold State.answerRequest
  rw [ho]
  dsimp only
  rw [show take body (s.setIdle (gapMs s.port.rate)) = (t, r) from ht]

/-- A request whose owner changes nothing is only answered. -/
theorem ListeningAt.exec_onlyAnswered (h : ListeningAt s) (hc : exec c s = s.requestArrives code body)
    (ho : ownerOf code = some take) (hb : body.length ≤ 96) (ht : take body s.taking = (s.taking, r)) :
    exec c s = .next (onlyAnswered s code r) := h.exec_request hc ho hb ht

end

/-- The port of an answered request whose owner left the port alone. -/
theorem prepareAnswer_port {s t : State} (ht : t.port = s.taking.port) (code : Byte) (r : Reply) :
    (t.prepareAnswer code r).port = answering s.port code r := by
  unfold State.prepareAnswer
  rw [ht]
  rfl

/-- A change of the table, the marks and the port is no change of another record. -/
theorem keepsAllBut_table (s : State) (ps : List Profile) (marks : BitVec 48) (port : Port) :
    KeepsAllBut [.port, .profiles, .marks] s { s with profiles := ps, marks := marks, port := port } :=
  ⟨fun p hp => by cases p <;> first | rfl | simp at hp, rfl⟩

/-- A mark set is the mark of its slot index; every other mark stays (R8). -/
theorem getLsbD_setMark (marks : BitVec 48) (i : Nat) {j : Nat} (hj : j < 48) :
    (marks ||| slotBit i).getLsbD j = (j == i || marks.getLsbD j) := by
  rw [BitVec.getLsbD_or, Bool.or_comm]
  congr 1
  rw [slotBit, BitVec.getLsbD_shiftLeft, BitVec.getLsbD_one]
  by_cases h : j = i
  · simp [h ▸ hj, h]
  · by_cases hlt : j < i
    · simp [h, hlt]
    · simp [h, hlt, show j - i ≠ 0 by omega]

/-! ## PLOOK and PLIST -/

theorem takePlook_key (s : State) (k1 k0 : Byte) : takePlook [k1, k0] s = (s,
    match findProfile s.profiles (k1.toNat * 256 + k0.toNat) with
    | none => .refused 4 0
    | some p => .done (p.lookBytes (s.mark p.slot))) := by
  simp only [takePlook, read2]
  split
  next hp => simp [hp]
  next hp => simp [hp, Reply.notFound]

theorem takePlook_length {body : List Byte} (hb : body.length ≠ 2) (s : State) :
    takePlook body s = (s, .badLength) := by
  unfold takePlook
  split
  · exact absurd rfl hb
  · rfl

theorem takePlist_length {body : List Byte} (hb : body.length ≠ 2) (s : State) :
    takePlist body s = (s, .badLength) := by
  unfold takePlist
  split
  · exact absurd rfl hb
  · rfl

/-- Settles O23: PLOOK changes nothing, and answers the record that the look-up finds. -/
theorem plookAnswersRecord : Obligations.PlookAnswersRecord := by
  refine ⟨fun s h hp => ?_, fun s body h hb hl => ?_, fun s k1 k0 h => ?_⟩
  · have hnone : findProfile s.profiles 0 = none :=
      findProfile_eq_none.2 fun p hm => by have := (hp p hm).key; omega
    refine h.exec_onlyAnswered rfl rfl (by decide) ?_
    rw [takePlook_key]
    simp only [show s.taking.profiles = s.profiles from rfl]
    simp [hnone]
  · exact h.exec_onlyAnswered rfl rfl hb (takePlook_length hl _)
  · refine h.exec_onlyAnswered rfl rfl (by simp) ?_
    rw [takePlook_key]
    rfl

/-- Settles O24: the page and the rest are the first sixteen and the others of the records at or above the key. -/
theorem plistAnswersPage : Obligations.PlistAnswersPage := by
  refine ⟨fun s body h hb hl => h.exec_onlyAnswered rfl rfl hb (takePlist_length hl _), fun s k1 k0 h ht => ?_⟩
  set ps := s.profiles.filter fun p => k1.toNat * 256 + k0.toNat ≤ p.key with hps
  have hsplit : ps = ps.take 16 ++ ps.drop 16 := (List.take_append_drop 16 ps).symm
  have hsorted : ps.Pairwise fun p q => p.key < q.key := ht.keysAscend.filter _
  rw [hsplit] at hsorted
  obtain ⟨hpage, -, hbefore⟩ := List.pairwise_append.1 hsorted
  refine ⟨ps.take 16, ps.drop 16, hsplit, List.length_take_le 16 ps, fun hne => ?_, hpage, hbefore, ?_⟩
  · have := List.length_pos_iff.2 hne
    simp at this ⊢
    omega
  · refine h.exec_onlyAnswered rfl rfl (by simp) ?_
    have hmore : flagByte (decide (16 < ps.length)) = if ps.drop 16 = [] then 0 else 1 := by
      by_cases h16 : 16 < ps.length
      · simp [flagByte, List.drop_eq_nil_iff, h16, Nat.not_le.2 h16]
      · simp [flagByte, List.drop_eq_nil_iff, h16, Nat.not_lt.1 h16]
    rw [← hmore]
    rfl

/-! ## A commit in flight -/

/-- While a commit is in flight the five requests that write are answered BUSY. -/
theorem take_busy {s : State} (h : s.commit ≠ none) (body : List Byte) :
    takePwrite body s = (s, .busy) ∧ takePtrim body s = (s, .busy) ∧ takePretire body s = (s, .busy) ∧
      takeScommit body s = (s, .busy) ∧ takeCwr body s = (s, .busy) := by
  have hc : s.committing = true := Option.isSome_iff_ne_none.2 h
  simp [takePwrite, takePtrim, takePretire, takeScommit, takeCwr, hc]

/-- A PLOOK is never answered BUSY, and its answer goes by the table and the marks alone. -/
theorem takePlook_reply {s t : State} (body : List Byte) (hp : t.profiles = s.profiles) (hm : t.marks = s.marks) :
    ∃ r, takePlook body s = (s, r) ∧ takePlook body t = (t, r) ∧ r ≠ .busy := by
  unfold takePlook State.mark
  rw [hp, hm]
  split
  · split
    · exact ⟨_, rfl, rfl, nofun⟩
    · exact ⟨_, rfl, rfl, nofun⟩
  · exact ⟨_, rfl, rfl, nofun⟩

theorem takePlist_reply {s t : State} (body : List Byte) (hp : t.profiles = s.profiles) :
    ∃ r, takePlist body s = (s, r) ∧ takePlist body t = (t, r) ∧ r ≠ .busy := by
  unfold takePlist
  rw [hp]
  split
  · exact ⟨_, rfl, rfl, nofun⟩
  · exact ⟨_, rfl, rfl, nofun⟩

/-- Settles O28: the five requests look at the commit before anything else, PLOOK and PLIST never. -/
theorem commitAnswersBusy : Obligations.CommitAnswersBusy := by
  intro s body h hc hb
  have hc' : ListeningAt { s with commit := none } := ⟨⟨h.powered, h.noReset, h.free, h.hunts⟩, h.address⟩
  obtain ⟨hpw, hpt, hpr, hsc, hcw⟩ := take_busy (s := s.taking) hc body
  refine ⟨h.exec_onlyAnswered rfl rfl hb hpw, h.exec_onlyAnswered rfl rfl hb hpt, h.exec_onlyAnswered rfl rfl hb hpr,
    h.exec_onlyAnswered rfl rfl hb hsc, h.exec_onlyAnswered rfl rfl hb hcw, ?_, ?_⟩
  · obtain ⟨r, hs, ht, hr⟩ := takePlook_reply (s := s.taking) (t := State.taking { s with commit := none }) body rfl rfl
    exact ⟨r, h.exec_onlyAnswered rfl rfl hb hs, hr, hc'.exec_onlyAnswered rfl rfl hb ht⟩
  · obtain ⟨r, hs, ht, hr⟩ := takePlist_reply (s := s.taking) (t := State.taking { s with commit := none }) body rfl
    exact ⟨r, h.exec_onlyAnswered rfl rfl hb hs, hr, hc'.exec_onlyAnswered rfl rfl hb ht⟩

/-! ## PRETIRE -/

section
variable {s : State} (h : s.commit = none) {k1 k0 : Byte}
include h

theorem takePretire_absent (hk : findProfile s.profiles (k1.toNat * 256 + k0.toNat) = none) :
    takePretire [k1, k0] s = (s, .notFound) := by
  simp [takePretire, State.committing, h, read2, hk]

theorem takePretire_found {p : Profile} (hp : findProfile s.profiles (k1.toNat * 256 + k0.toNat) = some p) :
    takePretire [k1, k0] s = s.retire p := by
  simp [takePretire, State.committing, h, read2, hp]

end

/-- Settles O31: what a retirement does to the record that the look-up finds. -/
theorem pretireRetires : Obligations.PretireRetires := by
  intro s k1 k0 h ht hc
  have request {t : State} {r : Reply} (ht : takePretire [k1, k0] s.taking = (t, r)) :=
    h.exec_request (c := .pretire [k1, k0]) rfl rfl (by simp) ht
  refine ⟨fun hk => ?_, fun p hp => ?_⟩
  · exact request (takePretire_absent (s := s.taking) hc hk)
  have take := takePretire_found (s := s.taking) hc hp
  simp only [State.retire] at take
  refine ⟨fun hr hb => ?_, fun hr hb => ?_, fun hr => ?_⟩
  · simp only [hr, hb, Bool.false_eq_true, if_false, if_true] at take
    refine ⟨_, ⟨request take, prepareAnswer_port rfl .., ?_⟩, findProfile_removeProfile_same .., ?_, fun k hk => ?_,
      fun i hi => getLsbD_setMark _ _ hi⟩
    · have hcommit : ((s.taking.removeRecord p).prepareAnswer 0x05 (.done [0])).commit = s.commit := by
        show s.commit.map _ = s.commit
        rw [hc]; rfl
      obtain ⟨hk, hq⟩ := keepsAllBut_table s (removeProfile s.profiles p.key) (s.marks ||| slotBit p.slot)
        ((s.taking.removeRecord p).prepareAnswer 0x05 (.done [0])).port
      exact ⟨fun q hn => by cases q <;> first | exact hcommit | exact hk _ hn, hq⟩
    · exact removeProfile_length ht.keysAscend (findProfile_self hp)
    · exact findProfile_removeProfile_other _ hk
  · simp only [hr, show p.bindCount ≠ 0 by omega, Bool.false_eq_true, if_false] at take
    refine ⟨_, ⟨request take, prepareAnswer_port rfl .., ?_⟩, ?_, fun k hk => ?_⟩
    · exact ⟨fun q hn => by cases q <;> first | rfl | simp at hn, rfl⟩
    · exact findProfile_replaceProfile_same (p := { p with retirePending := true })
        (by show (findProfile s.profiles p.key).isSome; rw [findProfile_self hp]; rfl)
    · exact findProfile_replaceProfile_other (p := { p with retirePending := true }) _ hk
  · simp only [hr, if_true] at take
    exact request take

end Sys2Proof.Machine
end

section
/-! PROOF. PWRITE: a body spells its fields whole (R155), and what the request does with them (R16, R17, R18). -/

namespace Sys2Proof.Machine

/-! ## Bytes -/

@[simp] theorem byteOf_toNat (n : Nat) : (byteOf n).toNat = n % 256 := by simp [byteOf]

theorem byteOf_toNat_of_lt {n : Nat} (h : n < 256) : (byteOf n).toNat = n := by
  rw [byteOf_toNat, Nat.mod_eq_of_lt h]

/-- A quantity of two bytes is read back (R154). -/
theorem read2_be2 {n : Nat} (h : n < 65536) : read2 (byteOf (n / 0x100)) (byteOf n) = n := by
  unfold read2
  simp only [byteOf_toNat]
  omega

/-- A couple is read back from its three bytes (R155). -/
theorem readCouple_word {c : Couple} (h : c.id < 16 ∧ c.coverage < 1024 ∧ c.rate < 1024) :
    readCouple (byteOf (c.word / 0x10000)) (byteOf (c.word / 0x100)) (byteOf c.word) = c := by
  obtain ⟨hid, hcov, hrate⟩ := h
  have hw : c.word < 0x1000000 := by unfold Couple.word; omega
  have hbytes : c.word / 0x10000 % 256 * 0x10000 + c.word / 0x100 % 256 * 0x100 + c.word % 256 = c.word := by omega
  unfold readCouple coupleOfWord
  simp only [byteOf_toNat, hbytes]
  have hi : c.word / 0x100000 % 0x10 = c.id := by unfold Couple.word; omega
  have hc : c.word % 0x400 = c.coverage := by unfold Couple.word; omega
  have hr : c.word / 0x400 % 0x400 = c.rate := by unfold Couple.word; omega
  rw [hi, hc, hr]

theorem readOptional_byteOf {o : Option Nat} (h : ∀ v, o = some v → 1 ≤ v ∧ v < 256) :
    readOptional (byteOf (o.getD 0)) = o := by
  cases o with
  | none => rfl
  | some v =>
    obtain ⟨h1, h256⟩ := h v rfl
    have hn : (byteOf v).toNat = v := byteOf_toNat_of_lt h256
    have hne : byteOf v ≠ 0 := fun e => by rw [e] at hn; simp at hn; omega
    rw [Option.getD_some, readOptional, if_neg hne, hn]

/-! ## The body of a PWRITE -/

/-- The bytes of the couples (R155). -/
def coupleBytes (cs : List Couple) : List Byte := (cs.map fun c => be3 c.word).flatten

/-- The bytes of the bands (R155). -/
def bandBytes (bs : List Band) : List Byte :=
  (bs.map fun b =>
    be2 b.bound ++ be2 b.z1 ++ be2 b.z2 ++ be2 b.z3 ++ [byteOf b.webExitMin, byteOf b.chillExitMax]).flatten

theorem entryBytes_eq (f : ProfileFields) : f.entryBytes = coupleBytes f.couples ++ bandBytes f.bands := rfl

theorem coupleBytes_length (cs : List Couple) : (coupleBytes cs).length = 3 * cs.length := by
  induction cs with
  | nil => rfl
  | cons c cs ih => simp [coupleBytes, be3] at ih ⊢; omega

theorem bandBytes_length (bs : List Band) : (bandBytes bs).length = 10 * bs.length := by
  induction bs with
  | nil => rfl
  | cons b bs ih => simp [bandBytes, be2] at ih ⊢; omega

theorem readCouples_coupleBytes {cs : List Couple} (h : ∀ c ∈ cs, c.id < 16 ∧ c.coverage < 1024 ∧ c.rate < 1024)
    (rest : List Byte) : readCouples cs.length (coupleBytes cs ++ rest) = cs := by
  induction cs with
  | nil => rfl
  | cons c cs ih =>
    have hc : coupleBytes (c :: cs) ++ rest = byteOf (c.word / 0x10000) :: byteOf (c.word / 0x100) :: byteOf c.word ::
      (coupleBytes cs ++ rest) := by simp [coupleBytes, be3]
    rw [hc, List.length_cons, readCouples, readCouple_word (h c (by simp)), ih fun d hd => h d (by simp [hd])]

theorem readBands_bandBytes {bs : List Band} (h : ∀ b ∈ bs, b.bound < 65536 ∧ b.z1 < 65536 ∧ b.z2 < 65536 ∧
    b.z3 < 65536 ∧ b.webExitMin < 256 ∧ b.chillExitMax < 256) : readBands bs.length (bandBytes bs) = bs := by
  induction bs with
  | nil => rfl
  | cons b bs ih =>
    obtain ⟨hu, h1, h2, h3, hw, hx⟩ := h b (by simp)
    have hb : bandBytes (b :: bs) = byteOf (b.bound / 0x100) :: byteOf b.bound :: byteOf (b.z1 / 0x100) :: byteOf b.z1 ::
      byteOf (b.z2 / 0x100) :: byteOf b.z2 :: byteOf (b.z3 / 0x100) :: byteOf b.z3 :: byteOf b.webExitMin ::
      byteOf b.chillExitMax :: bandBytes bs := by simp [bandBytes, be2]
    rw [hb, List.length_cons, readBands, read2_be2 hu, read2_be2 h1, read2_be2 h2, read2_be2 h3, byteOf_toNat_of_lt hw,
      byteOf_toNat_of_lt hx, ih fun d hd => h d (by simp [hd])]

/-- What is read from the body of encodable fields: their header, and their entries. -/
def bodyOf (f : ProfileFields) : PwriteBody :=
  { key := f.key, width := f.width, tolerance := f.tolerance, override := f.override
    coupleCount := f.couples.length, bandCount := f.bands.length, entries := f.entryBytes }

section
variable {f : ProfileFields} (e : Encodable f)
include e

theorem Encodable.readPwrite : readPwrite (pwriteBody f) = some (bodyOf f) := by
  obtain ⟨hk, hw, ht, ho⟩ := e.header
  obtain ⟨-, hc, -⟩ := e.couples
  obtain ⟨-, hb, -⟩ := e.bands
  have hbody : pwriteBody f = byteOf (f.key / 0x100) :: byteOf f.key :: byteOf (f.width / 0x100) :: byteOf f.width ::
    byteOf f.tolerance :: byteOf (f.override.getD 0) :: byteOf f.couples.length :: byteOf f.bands.length ::
    f.entryBytes := by simp [pwriteBody, be2]
  rw [hbody, Machine.readPwrite, read2_be2 hk, read2_be2 hw, byteOf_toNat_of_lt ht, readOptional_byteOf ho,
    byteOf_toNat_of_lt (by omega), byteOf_toNat_of_lt (by omega)]
  rfl

theorem Encodable.fields : (bodyOf f).fields = f := by
  obtain ⟨-, -, hc⟩ := e.couples
  obtain ⟨-, -, hb⟩ := e.bands
  have hdrop : f.entryBytes.drop (3 * f.couples.length) = bandBytes f.bands :=
    List.drop_left' (coupleBytes_length f.couples)
  unfold PwriteBody.fields bodyOf
  dsimp only
  rw [hdrop, readBands_bandBytes hb, entryBytes_eq, readCouples_coupleBytes hc]

end

theorem entryBytes_length (f : ProfileFields) : f.entryBytes.length = 3 * f.couples.length + 10 * f.bands.length := by
  rw [entryBytes_eq, List.length_append, coupleBytes_length, bandBytes_length]

theorem pwriteBody_length (f : ProfileFields) :
    (pwriteBody f).length = 8 + 3 * f.couples.length + 10 * f.bands.length := by
  simp [pwriteBody, be2, entryBytes_length]
  omega

theorem ValidFields.encodable {f : ProfileFields} (v : ValidFields f) : Encodable f where
  header := by
    refine ⟨by have := v.key; omega, by have := v.width; omega, by have := v.tolerance; omega, fun o ho => ?_⟩
    have := v.override o ho
    omega
  couples := ⟨v.coupleCount.1, v.coupleCount.2, fun c hc => by have := v.couples c hc; omega⟩
  bands := ⟨v.bandCount.1, v.bandCount.2, fun b hb => by
    have h := v.bounds b hb
    have hz := v.setpoints b hb
    have h1 : b.z1 ≤ 400 := (hz .z1).2
    have h2 : b.z2 ≤ 400 := (hz .z2).2
    have h3 : b.z3 ≤ 400 := (hz .z3).2
    have he := v.exits b hb
    omega⟩

/-- Settles O21: the body of valid fields is read back as those fields, which pass every test. -/
theorem pwriteBodyRoundTrip : Obligations.PwriteBodyRoundTrip := by
  intro f v
  have e := v.encodable
  have hl := pwriteBody_length f
  have := v.coupleCount.2
  have := v.bandCount.2
  refine ⟨hl, by omega, bodyOf f, e.readPwrite, rfl, rfl, e.fields, ?_⟩
  rw [e.fields]
  exact firstFailed_tests_eq_none.2 v

/-! ## The order of the tests -/

theorem coupleTests_indices (n : Nat) (seen : List Nat) (cs : List Couple) :
    (coupleTests n seen cs).map (·.1) = List.range' (8 + 3 * n) (3 * cs.length) := by
  induction cs generalizing n seen with
  | nil => rfl
  | cons c cs ih =>
    simp only [coupleTests, List.map_cons, ih, List.length_cons, Nat.mul_add, Nat.mul_one, List.range'_succ,
      List.cons.injEq]
    exact ⟨trivial, by omega, by omega, congrArg (List.range' · _) (by omega)⟩

theorem bandTests_indices (n before : Nat) (bs : List Band) :
    (bandTests n before bs).map (·.1) = List.range' (32 + 6 * n) (6 * bs.length) := by
  induction bs generalizing n before with
  | nil => rfl
  | cons b bs ih =>
    simp only [bandTests, List.map_cons, ih, List.length_cons, Nat.mul_add, Nat.mul_one, List.range'_succ,
      List.cons.injEq]
    exact ⟨trivial, by omega, by omega, by omega, by omega, by omega, congrArg (List.range' · _) (by omega)⟩

/-- The tests of PWRITE come in ascending field index (R16). -/
theorem tests_ascending {f : ProfileFields} (hc : f.couples.length ≤ 8) : f.tests.Pairwise fun t u => t.1 < u.1 := by
  have h : (f.tests.map (·.1)).Pairwise (· < ·) := by
    unfold ProfileFields.tests
    rw [List.map_append, List.map_append, coupleTests_indices, bandTests_indices]
    refine List.pairwise_append.2 ⟨List.pairwise_append.2 ⟨by simp, List.pairwise_lt_range', fun i hi j hj => ?_⟩,
      List.pairwise_lt_range', fun i hi j hj => ?_⟩
    · rw [List.mem_range'_1] at hj
      simp only [List.map_cons, List.map_nil, List.mem_cons, List.not_mem_nil, or_false] at hi
      omega
    · rw [List.mem_range'_1] at hj
      simp only [List.map_cons, List.map_nil, List.mem_append, List.mem_cons, List.not_mem_nil, or_false,
        List.mem_range'_1] at hi
      omega
  exact List.pairwise_map.1 h

/-- The first field out of its range is the one that the tests name (R16). -/
theorem firstFailed_tests_eq_some {f : ProfileFields} (e : Encodable f) {i : Nat} (hi : ¬FieldGood f i)
    (hlow : ∀ j < i, FieldGood f j) : firstFailed f.tests = some i := by
  obtain ⟨hc1, hc8, -⟩ := e.couples
  obtain ⟨hb1, hb6, -⟩ := e.bands
  have hm (j : Nat) := mem_tests (i := j) ⟨hc1, hc8⟩ ⟨hb1, hb6⟩
  exact firstFailed_eq_some (tests_ascending hc8) ((hm i).2 hi) fun j hj h => (hm j).1 h (hlow j hj)

/-! ## The request -/

/-- The tests that PWRITE makes before it looks at the fields: the counts, then the length. -/
theorem takePwrite_eq {s : State} (hc : s.commit = none) {body : List Byte} {b : PwriteBody}
    (hb : readPwrite body = some b) : takePwrite body s =
      if !within 1 8 b.coupleCount then (s, .badField 5)
      else if !within 1 6 b.bandCount then (s, .badField 6)
      else if b.entries.length ≠ 3 * b.coupleCount + 10 * b.bandCount then (s, .badLength)
      else (firstFailed b.fields.tests).elim (s.writeProfile b.fields) fun i => (s, .badField i) := by
  have hn : s.committing = false := by simp [State.committing, hc]
  simp only [takePwrite, hn, hb, Bool.false_eq_true, if_false]
  cases firstFailed b.fields.tests <;> rfl

theorem within_eq_false {lo hi v : Nat} : within lo hi v = false ↔ ¬(lo ≤ v ∧ v ≤ hi) := by
  rw [← within_eq_true, Bool.not_eq_true]

/-- The body of encodable fields passes the tests of its counts and its length; its fields are tested next. -/
theorem takePwrite_fields {s : State} (hc : s.commit = none) {f : ProfileFields} (e : Encodable f) :
    (∀ i, firstFailed f.tests = some i → takePwrite (pwriteBody f) s = (s, .badField i)) ∧
      (firstFailed f.tests = none → takePwrite (pwriteBody f) s = s.writeProfile f) := by
  obtain ⟨hc1, hc8, -⟩ := e.couples
  obtain ⟨hb1, hb6, -⟩ := e.bands
  have hcount : within 1 8 (bodyOf f).coupleCount = true := within_eq_true.2 ⟨hc1, hc8⟩
  have hbands : within 1 6 (bodyOf f).bandCount = true := within_eq_true.2 ⟨hb1, hb6⟩
  have hlen : ¬(bodyOf f).entries.length ≠ 3 * (bodyOf f).coupleCount + 10 * (bodyOf f).bandCount :=
    not_not.2 (entryBytes_length f)
  rw [takePwrite_eq hc e.readPwrite, e.fields]
  simp only [hcount, hbands, Bool.not_true, Bool.false_eq_true, if_false, if_neg hlen]
  exact ⟨fun i hi => by rw [hi]; rfl, fun hn => by rw [hn]; rfl⟩

theorem takePwrite_short {s : State} (hc : s.commit = none) {body : List Byte} (hb : body.length < 8) :
    takePwrite body s = (s, .badLength) := by
  have hn : s.committing = false := by simp [State.committing, hc]
  have hr : readPwrite body = none := by
    unfold readPwrite
    split
    · simp at hb; omega
    · rfl
  simp only [takePwrite, hn, hr, Bool.false_eq_true, if_false]

/-- A header of six bytes, the counts and the rest. -/
theorem readPwrite_counts {header rest : List Byte} (hh : header.length = 6) (couples bands : Byte) :
    ∃ b, readPwrite (header ++ couples :: bands :: rest) = some b ∧ b.coupleCount = couples.toNat ∧
      b.bandCount = bands.toNat ∧ b.entries = rest := by
  match header, hh with
  | [k1, k0, w1, w0, t, o], _ => exact ⟨_, rfl, rfl, rfl, rfl⟩

/-! ## The tests against the table -/

section
variable {s : State} {f : ProfileFields}

theorem writeProfile_new (hk : findProfile s.profiles f.key = none) :
    s.writeProfile f = if 48 ≤ s.profiles.length then (s, .tableFull) else s.createProfile f := by
  simp only [State.writeProfile, hk]

theorem writeProfile_known {p : Profile} (hp : findProfile s.profiles f.key = some p) : s.writeProfile f =
    if p.retirePending then (s, .retiring) else if 0 < p.bindCount then (s, .inUse) else s.replaceRecord p f := by
  simp only [State.writeProfile, hp]

/-- A record created: filed, of revision 0, ACTIVE, unbound, tied to the lowest free slot index (R17). -/
theorem createProfile_table (hk : findProfile s.profiles f.key = none) :
    findProfile (s.createProfile f).1.profiles f.key = some { f with
        couples := sortCouples f.couples, revision := 0, retirePending := false, bindCount := 0
        slot := lowestFreeSlot s.profiles } ∧
      ∀ k, k ≠ f.key → findProfile (s.createProfile f).1.profiles k = findProfile s.profiles k :=
  ⟨findProfile_insertProfile_same (p := { f.filed with
      revision := 0, retirePending := false, bindCount := 0, slot := lowestFreeSlot s.profiles }) hk,
    fun _ hne => findProfile_insertProfile_other (p := { f.filed with
      revision := 0, retirePending := false, bindCount := 0, slot := lowestFreeSlot s.profiles }) _ hne⟩

/-- A record replaced: filed, its revision stepped, everything else of it kept (R18). -/
theorem replaceRecord_table {p : Profile} (hp : findProfile s.profiles f.key = some p) :
    findProfile (s.replaceRecord p f).1.profiles f.key = some { f with
        couples := sortCouples f.couples, revision := p.revision + 1, retirePending := p.retirePending
        bindCount := p.bindCount, slot := p.slot } ∧
      ∀ k, k ≠ f.key → findProfile (s.replaceRecord p f).1.profiles k = findProfile s.profiles k :=
  ⟨findProfile_replaceProfile_same (p := { p with toProfileFields := f.filed, revision := p.revision + 1 })
      (Option.isSome_iff_exists.2 ⟨p, hp⟩),
    fun _ hne => findProfile_replaceProfile_other (p := { p with toProfileFields := f.filed, revision := p.revision + 1 })
      _ hne⟩

end

/-- PWRITE of valid fields: the table decides (R16, R17, R18). -/
theorem pwrite_valid {s : State} {f : ProfileFields} (h : ListeningAt s) (hc : s.commit = none) (v : ValidFields f) {t : State}
    {r : Reply} (hw : s.taking.writeProfile f = (t, r)) :
    exec (.pwrite (pwriteBody f)) s = .next (t.prepareAnswer 0x03 r) := by
  have hlen : (pwriteBody f).length ≤ 96 := by
    have := v.coupleCount.2
    have := v.bandCount.2
    rw [pwriteBody_length]; omega
  exact h.exec_request rfl rfl hlen
    (((takePwrite_fields (s := s.taking) hc v.encodable).2 (firstFailed_tests_eq_none.2 v)).trans hw)

/-- Settles O29: the tests in their order, then the record created or replaced. -/
theorem pwriteWrites : Obligations.PwriteWrites := by
  refine ⟨fun s f h _ hc v => ⟨fun hk hl => ?_, fun p hp hr hb => ?_, fun p hp hr => ?_, fun p hp hr hb => ?_,
    fun hk hl => ?_⟩, fun s header rest couples bands h hc hh hr => ?_, fun s body h hc hb => ?_,
    fun s f i h hc e hi hlow => ?_⟩
  · obtain ⟨hlt, hfree, hbelow⟩ := lowestFreeSlot_spec hl
    obtain ⟨hsame, hother⟩ := createProfile_table (s := s.taking) hk
    have hw : s.taking.writeProfile f = s.taking.createProfile f :=
      (writeProfile_new (s := s.taking) hk).trans (if_neg (Nat.not_le.2 hl))
    exact ⟨(s.taking.createProfile f).1.prepareAnswer 0x03 (.done [0, byteOf (lowestFreeSlot s.profiles), 0]),
      lowestFreeSlot s.profiles, sortCouples f.couples,
      ⟨pwrite_valid h hc v hw, prepareAnswer_port rfl .., keepsAllBut_table ..⟩, hlt, hfree, hbelow,
      sortCouples_perm _, sortCouples_ascending v.couplesDiffer, hsame, hother, fun i hi => getLsbD_setMark _ _ hi⟩
  · obtain ⟨hsame, hother⟩ := replaceRecord_table (s := s.taking) hp
    have hw : s.taking.writeProfile f = s.taking.replaceRecord p f := by
      rw [writeProfile_known (s := s.taking) hp, hr, hb]; rfl
    rw [hr, hb] at hsame
    exact ⟨(s.taking.replaceRecord p f).1.prepareAnswer 0x03 (.done [p.revision + 1, byteOf p.slot, 1]),
      sortCouples f.couples, ⟨pwrite_valid h hc v hw, prepareAnswer_port rfl .., keepsAllBut_table ..⟩,
      sortCouples_perm _, sortCouples_ascending v.couplesDiffer, hsame, hother, fun i hi => getLsbD_setMark _ _ hi⟩
  · exact pwrite_valid h hc v ((writeProfile_known (s := s.taking) hp).trans (if_pos hr))
  · have hw : s.taking.writeProfile f = (s.taking, .inUse) := by
      rw [writeProfile_known (s := s.taking) hp, hr, if_pos (Nat.pos_of_ne_zero (by omega))]; rfl
    exact pwrite_valid h hc v hw
  · exact pwrite_valid h hc v ((writeProfile_new (s := s.taking) hk).trans (if_pos hl.ge))
  · obtain ⟨b, hb, hcount, hbands, hentries⟩ := readPwrite_counts (rest := rest) hh couples bands
    have take := takePwrite_eq (s := s.taking) hc hb
    rw [hcount, hbands, hentries] at take
    have hlen : (header ++ couples :: bands :: rest).length ≤ 96 := by simp [hh]; omega
    have none_of_bad {b : Byte} {n : Nat} (hbad : b = 0 ∨ n < b.toNat) : within 1 n b.toNat = false := by
      rw [within_eq_false]
      rcases hbad with rfl | hbad
      · simp
      · omega
    refine ⟨fun hbad => ?_, fun h1 h8 hbad => ?_, fun h1 h8 h1' h6 hbad => ?_⟩
    · rw [none_of_bad hbad] at take
      exact h.exec_onlyAnswered rfl rfl hlen take
    · rw [within_eq_true.2 ⟨h1, h8⟩, none_of_bad hbad] at take
      exact h.exec_onlyAnswered rfl rfl hlen take
    · rw [within_eq_true.2 ⟨h1, h8⟩, within_eq_true.2 ⟨h1', h6⟩, if_pos hbad] at take
      exact h.exec_onlyAnswered rfl rfl hlen take
  · exact h.exec_onlyAnswered rfl rfl (by omega) (takePwrite_short (s := s.taking) hc hb)
  · have hlen : (pwriteBody f).length ≤ 96 := by
      have := e.couples.2.1
      have := e.bands.2.1
      rw [pwriteBody_length]; omega
    exact h.exec_onlyAnswered rfl rfl hlen ((takePwrite_fields (s := s.taking) hc e).1 i (firstFailed_tests_eq_some e hi hlow))

end Sys2Proof.Machine
end

section
/-! PROOF. What the operations on a lane leave alone, and the two requests that bind and unbind a profile: LTHRD (R10,
R46) and LUNTH (R11, R57). -/

namespace Sys2Proof.Machine

/-! ## Frames of the lane operations -/

theorem keepsAllBut_modLane (s : State) (n : LaneId) (f : Lane → Lane) : KeepsAllBut [.lane n] s (s.modLane n f) where
  left p hp := by
    cases p with
    | lane m => exact State.lane_modLane_other _ _ fun e => hp (by simp [e])
    | _ => rfl
  right := rfl

theorem keepsAllBut_settle (s : State) (n : LaneId) : KeepsAllBut [.lane n] s (s.settle n) := keepsAllBut_modLane ..

theorem keepsAllBut_removeTarget (s : State) (n : LaneId) : KeepsAllBut [.lane n, .arbiter] s (s.removeTarget n) where
  left p hp := by
    cases p with
    | lane m => exact State.lane_removeTarget_other _ fun e => hp (by simp [e])
    | arbiter => simp at hp
    | _ => rfl
  right := rfl

theorem keepsAllBut_checkInput (s : State) (n : LaneId) : KeepsAllBut [.breaks] s (s.checkInput n) := by
  unfold State.checkInput
  dsimp only
  split
  · exact ⟨fun p hp => by cases p <;> first | rfl | simp at hp, rfl⟩
  · exact .refl _ s

theorem keepsAllBut_reform (s : State) : KeepsAllBut [.load, .lines] s s.reform :=
  ⟨fun p hp => by cases p <;> first | rfl | simp at hp, rfl⟩

theorem keepsAllBut_prepareAnswer (s : State) (code : Byte) (r : Reply) :
    KeepsAllBut [.port] s (s.prepareAnswer code r) :=
  ⟨fun p hp => by cases p <;> first | rfl | simp at hp, rfl⟩

theorem keepsAllBut_taking (s : State) : KeepsAllBut [.port] s s.taking :=
  ⟨fun p hp => by cases p <;> first | rfl | simp at hp, rfl⟩

/-- What an owner has done, re-formed and answered, is done to the state that the request met. -/
theorem keepsAllBut_answered {changed : List Part} {s t : State} (h : KeepsAllBut changed s.taking t)
    (hl : .load ∈ changed) (hn : .lines ∈ changed) (hp : .port ∈ changed) (code : Byte) (r : Reply) :
    KeepsAllBut changed s (t.reform.prepareAnswer code r) :=
  (((keepsAllBut_taking s).mono (by simpa using hp)).trans h).trans
    (((keepsAllBut_reform t).mono (by simp [hl, hn])).trans
      ((keepsAllBut_prepareAnswer _ code r).mono (by simpa using hp)))

/-- A state re-formed and answered is formed from a state with the same load computer, whatever lies between. -/
theorem formedFrom_answered {s t : State} (h : t.load = s.load) (code : Byte) (r : Reply) :
    FormedFrom s (t.reform.prepareAnswer code r) :=
  ⟨by rw [← h]; rfl, rfl⟩

theorem lane_answered (t : State) (code : Byte) (r : Reply) (n : LaneId) :
    (t.reform.prepareAnswer code r).lane n = t.lane n := rfl

/-! ## What the in-band state goes by -/

/-- A judgement keeps the lead band; only its status may move (R79). -/
@[simp] theorem Lane.judged_leadBand (l : Lane) (b : Option Bool) :
    (l.judged b).lead.map (·.band) = l.lead.map (·.band) := by
  rcases b with _ | _ | _ <;> simp [Lane.judged, Function.comp_def]

theorem Lane.heatBand_congr {l m : Lane} (hg : m.g = l.g) (hl : m.lead.map (·.band) = l.lead.map (·.band))
    (bands : List Band) : m.heatBand bands = l.heatBand bands := by
  unfold Lane.heatBand
  rw [hg]
  cases hm : m.lead <;> cases hl' : l.lead <;> simp_all

theorem State.zonesInBand_congr {s t : State} {n : LaneId} (hk : (t.lane n).key = (s.lane n).key)
    (hh : ∀ bands, (t.lane n).heatBand bands = (s.lane n).heatBand bands) (hp : t.profiles = s.profiles)
    (hr : t.readings = s.readings) (hc : t.cal = s.cal) : t.zonesInBand n = s.zonesInBand n := by
  have hprofile : t.profileOf n = s.profileOf n := by unfold State.profileOf; rw [hk, hp]
  unfold State.zonesInBand State.zoneInBand State.setpoint State.reading
  simp only [hk, hh, hprofile, hr, hc]

/-- A judgement moves nothing that it goes by. -/
@[simp] theorem State.zonesInBand_settle (s : State) (n : LaneId) : (s.settle n).zonesInBand n = s.zonesInBand n :=
  State.zonesInBand_congr (by simp) (Lane.heatBand_congr (by simp) (by simp)) rfl rfl rfl

/-- A lane judged is READY exactly where it was READY or THREADING and is not out of band. -/
theorem Lane.judged_threading {l : Lane} (h : l.state = .threading) (b : Option Bool) :
    (l.judged b).state = if b = some true then .ready else .threading := by
  rcases b with _ | _ | _ <;> simp [Lane.judged, h]

theorem Lane.judged_lead_none {l : Lane} (h : l.lead = none) (b : Option Bool) : (l.judged b).lead = none := by
  rcases b with _ | _ | _ <;> simp [Lane.judged, h]

/-! ## Break inputs -/

@[simp] theorem State.lane_checkInput (s : State) (n m : LaneId) : (s.checkInput n).lane m = s.lane m := by
  unfold State.checkInput
  dsimp only
  split <;> rfl

theorem State.breakInput_checkInput_same (s : State) (n : LaneId) :
    (s.checkInput n).breakInput n = { s.breakInput n with
      timer := if s.inputActive n ∧ (s.breakInput n).timer = none then some s.cal.values.confirmMs
        else (s.breakInput n).timer } := by
  unfold State.checkInput
  dsimp only
  split
  · exact PerLane.get_set_same ..
  · rfl

theorem State.breakInput_checkInput_other (s : State) {n m : LaneId} (h : m ≠ n) :
    (s.checkInput n).breakInput m = s.breakInput m := by
  unfold State.checkInput
  dsimp only
  split
  · exact PerLane.get_set_other _ _ h
  · rfl

/-! ## LTHRD -/

@[simp] theorem LaneId.ofNumber_number (n : LaneId) : LaneId.ofNumber (n.number % 256) = some n := by
  cases n <;> rfl

theorem purgingOrHeating_iff {s : State} :
    s.purgingOrHeating = true ↔ s.dryer.state = .purge ∨ s.dryer.state = .heating := by
  simp [State.purgingOrHeating]

section
variable {s : State} {n : LaneId} {k1 k0 : Byte}

theorem takeLthrd_threaded (hu : (s.lane n).state ≠ .unthreaded) :
    takeLthrd (laneBody n ++ [k1, k0]) s = (s, .wrongState) := by
  simp [takeLthrd, laneBody, hu]

variable (hu : (s.lane n).state = .unthreaded)
include hu

theorem takeLthrd_absent (hp : findProfile s.profiles (k1.toNat * 256 + k0.toNat) = none) :
    takeLthrd (laneBody n ++ [k1, k0]) s = (s, .notFound) := by
  simp [takeLthrd, laneBody, hu, State.bind, State.lookWithoutBinding, read2, hp]

variable {p : Profile} (hp : findProfile s.profiles (k1.toNat * 256 + k0.toNat) = some p)
include hp

theorem takeLthrd_retiring (hr : p.retirePending = true) :
    takeLthrd (laneBody n ++ [k1, k0]) s = (s, .retiring) := by
  simp [takeLthrd, laneBody, hu, State.bind, State.lookWithoutBinding, read2, hp, hr]

theorem takeLthrd_notHeating (hr : p.retirePending = false) (hd : s.purgingOrHeating = false) :
    takeLthrd (laneBody n ++ [k1, k0]) s = (s, .notHeating) := by
  simp [takeLthrd, laneBody, hu, State.lookWithoutBinding, read2, hp, hr, hd]

theorem takeLthrd_taken (hr : p.retirePending = false) (hd : s.purgingOrHeating = true) :
    takeLthrd (laneBody n ++ [k1, k0]) s =
      ((({ s with profiles := replaceProfile s.profiles { p with bindCount := p.bindCount + 1 } } : State).thread n
        p.key).reform, .done [byteOf (p.bindCount + 1)]) := by
  simp [takeLthrd, laneBody, hu, State.bind, read2, hp, hr, hd, findProfile_key hp]

end

theorem keepsAllBut_thread (s : State) (n : LaneId) (k : Nat) : KeepsAllBut [.lane n, .breaks] s (s.thread n k) :=
  (((keepsAllBut_modLane s n _).mono (by simp)).trans ((keepsAllBut_checkInput _ n).mono (by simp))).trans
    ((keepsAllBut_settle _ n).mono (by simp))

/-- The lane threaded: its record of before, threaded and judged. -/
theorem lane_thread (s : State) (n : LaneId) (k : Nat) :
    (s.thread n k).lane n = ((s.lane n).threaded k).judged ((s.thread n k).zonesInBand n) := by
  unfold State.thread
  rw [State.zonesInBand_settle]
  simp

/-- Settles O32: the threading is a bind, a fresh record of the lane, and a judgement of its zones. -/
theorem lthrdThreads : Obligations.LthrdThreads := by
  intro s n k1 k0 h
  have refused {r : Reply} (ht : takeLthrd (laneBody n ++ [k1, k0]) s.taking = (s.taking, r)) :=
    h.exec_onlyAnswered (c := .lthrd (laneBody n ++ [k1, k0])) rfl rfl (by simp [laneBody]) ht
  refine ⟨fun p hp hu hd hr => ?_, fun hu => refused (takeLthrd_threaded (s := s.taking) hu),
    fun hu hp => refused (takeLthrd_absent (s := s.taking) hu hp),
    fun p hp hu hr => refused (takeLthrd_retiring (s := s.taking) hu hp hr), fun p hp hu hd hd' hr => ?_⟩
  · have take := takeLthrd_taken (s := s.taking) hu hp hr (purgingOrHeating_iff.2 hd)
    set b : State :=
      { s.taking with profiles := replaceProfile s.taking.profiles { p with bindCount := p.bindCount + 1 } }
    have bound : KeepsAllBut [.profiles] s.taking b := ⟨fun q hq => by cases q <;> first | rfl | simp at hq, rfl⟩
    have kept := keepsAllBut_thread b n p.key
    have lane : (((b.thread n p.key).reform).prepareAnswer 0x08 (.done [byteOf (p.bindCount + 1)])).lane n =
        ((s.lane n).threaded p.key).judged ((b.thread n p.key).zonesInBand n) := lane_thread b n p.key
    have found : (findProfile s.profiles p.key).isSome := by rw [findProfile_self hp]; rfl
    have profiles : (((b.thread n p.key).reform).prepareAnswer 0x08 (.done [byteOf (p.bindCount + 1)])).profiles =
        replaceProfile s.profiles { p with bindCount := p.bindCount + 1 } := kept.1 .profiles (by simp)
    have input := State.breakInput_checkInput_same (b.modLane n fun l => l.threaded p.key) n
    have state := congrArg Lane.state lane
    rw [Lane.judged_threading rfl] at state
    refine ⟨_, h.exec_request rfl rfl (by simp [laneBody]) take,
      prepareAnswer_port (t := (b.thread n p.key).reform) (kept.1 .port (by simp)) .., ?_, state, ?_, ?_, ?_, ?_, ?_,
      ?_,
      profiles ▸ findProfile_replaceProfile_same (p := { p with bindCount := p.bindCount + 1 }) found,
      fun k hk => profiles ▸ findProfile_replaceProfile_other (p := { p with bindCount := p.bindCount + 1 }) _ hk,
      fun m hm => State.breakInput_checkInput_other _ hm, ?_, ?_,
      formedFrom_answered (s := s) (kept.1 .load (by simp)) .., ?_⟩
    · rw [lane]; simp [Lane.threaded]
    · rw [lane]; simp [Lane.threaded]
    · rw [lane]; simp [Lane.threaded]
    · rw [lane]; exact Lane.judged_lead_none rfl _
    · rw [lane]; simp [Lane.threaded]
    · rw [lane]; simp [Lane.threaded]
    · rw [lane]; simp [Lane.threaded, Lane.clearLead]
    · exact (congrArg BreakInput.level input :)
    · exact (congrArg BreakInput.timer input :)
    · exact keepsAllBut_answered ((bound.mono (by simp)).trans (kept.mono (by simp))) (by simp) (by simp) (by simp) ..
  · exact refused (takeLthrd_notHeating (s := s.taking) hu hp hr
      (by rw [← Bool.not_eq_true, purgingOrHeating_iff]; exact fun e => e.elim hd hd'))

end Sys2Proof.Machine
end

section
/-! PROOF. LUNTH (R11, R57): the lane gives its key back, and the record that it leaves. -/

namespace Sys2Proof.Machine

section
variable {s : State} {n : LaneId}

theorem takeLunth_wrongState (h : (s.lane n).state = .unthreaded ∨ (s.lane n).state = .running) :
    takeLunth (laneBody n) s = (s, .wrongState) := by
  simp [takeLunth, laneBody, h]

theorem takeLunth_residual (h : (s.lane n).state = .broke ∨ (s.lane n).state = .suspended)
    (hr : (s.lane n).residual ≠ none) : takeLunth (laneBody n) s = (s, .residual) := by
  rcases h with h | h <;> simp [takeLunth, laneBody, h, Option.isSome_iff_ne_none.2 hr]

theorem takeLunth_taken {k : Nat} (hk : (s.lane n).key = some k) (hu : (s.lane n).state ≠ .unthreaded)
    (hs : (s.lane n).state ≠ .running) (hb : (s.lane n).state ≠ .broke) (hr : (s.lane n).residual = none) :
    takeLunth (laneBody n) s =
      ((s.unthread n k).1.reform, .done [byteOf (s.unthread n k).2.1, flagByte (s.unthread n k).2.2]) := by
  simp [takeLunth, laneBody, hk, hs, hr, hu, hb]

end

/-- The lane as LUNTH leaves it, with its profile still to be unbound. -/
def State.letGo (s : State) (n : LaneId) : State := (s.removeTarget n).modLane n fun l => l.unthread s.graceMs

theorem unthread_eq (s : State) (n : LaneId) (k : Nat) :
    s.unthread n k = (((s.letGo n).unbind k).1.settle n, ((s.letGo n).unbind k).2) := rfl

theorem keepsAllBut_letGo (s : State) (n : LaneId) : KeepsAllBut [.lane n, .arbiter] s (s.letGo n) :=
  (keepsAllBut_removeTarget s n).trans ((keepsAllBut_modLane _ n _).mono (by simp))

theorem lane_letGo (s : State) (n : LaneId) :
    (s.letGo n).lane n = ({ (s.lane n).clearLead with target := none } : Lane).unthread s.graceMs := by
  rw [State.letGo, State.lane_modLane_same, State.lane_removeTarget_same]

theorem keepsAllBut_unbind (s : State) (k : Nat) :
    KeepsAllBut [.profiles, .marks, .commit, .attention] s (s.unbind k).1 := by
  cases hp : findProfile s.profiles k with
  | none => rw [unbind_none hp]; exact .refl _ s
  | some p =>
    rcases unbind_cases hp with ⟨-, -, h⟩ | ⟨-, h⟩ <;> rw [h] <;>
      exact ⟨fun q hq => by cases q <;> first | rfl | simp at hq, rfl⟩

/-- The lane unthreaded has no in-band state. -/
theorem lane_unthread (s : State) (n : LaneId) (k : Nat) :
    (s.unthread n k).1.lane n =
      { ({ (s.lane n).clearLead with target := none } : Lane).unthread s.graceMs with inBand := none } := by
  have lane : ((s.letGo n).unbind k).1.lane n = _ :=
    ((keepsAllBut_unbind _ k).1 (.lane n) (by simp)).trans (lane_letGo s n)
  have zones : ((s.letGo n).unbind k).1.zonesInBand n = none := by
    unfold State.zonesInBand
    rw [lane]
    rfl
  rw [unthread_eq, State.lane_settle_same, zones, lane]
  rfl

theorem keepsAllBut_unthread (s : State) (n : LaneId) (k : Nat) :
    KeepsAllBut [.profiles, .marks, .commit, .attention, .lane n, .arbiter] s (s.unthread n k).1 :=
  (((keepsAllBut_letGo s n).mono (by simp)).trans ((keepsAllBut_unbind _ k).mono (by simp))).trans
    ((keepsAllBut_settle _ n).mono (by simp))

theorem arbiter_unthread (s : State) (n : LaneId) (k : Nat) :
    (s.unthread n k).1.arbiter = { s.arbiter with queue := s.arbiter.queue.filter (· ≠ n) } := by
  have queue : s.arbiter.queue.filter (· != n) = s.arbiter.queue.filter (· ≠ n) :=
    List.filter_congr fun m _ => by simp [bne, beq_eq_decide]
  rw [← queue]
  exact (keepsAllBut_unbind (s.letGo n) k).1 .arbiter (by simp)

/-- A record that a lane carries counts it (R10). -/
theorem BindingLaw.bindCount_pos {s : State} (l : BindingLaw s) {n : LaneId} {k : Nat} {p : Profile}
    (hk : (s.lane n).key = some k) (hp : findProfile s.profiles k = some p) : 1 ≤ p.bindCount := by
  rw [l.counted p (findProfile_mem hp), findProfile_key hp, Nat.one_le_iff_ne_zero, Ne, lanesBound_eq_zero]
  exact fun h => h n hk

/-- An unbinding leaves the other records of the table. -/
theorem findProfile_unbind_other (s : State) {j k : Nat} (hj : j ≠ k) :
    findProfile (s.unbind k).1.profiles j = findProfile s.profiles j := by
  cases hp : findProfile s.profiles k with
  | none => rw [unbind_none hp]
  | some p =>
    have hj : j ≠ p.key := findProfile_key hp ▸ hj
    rcases unbind_cases hp with ⟨-, -, h⟩ | ⟨-, h⟩ <;> rw [h]
    · exact findProfile_removeProfile_other _ hj
    · exact findProfile_replaceProfile_other (p := { p with bindCount := p.bindCount - 1 }) _ hj

section
variable {s : State} {k : Nat} {p : Profile} (hp : findProfile s.profiles k = some p) (n : LaneId)
include hp

/-- The last lane of a retiring record lets go of it. -/
theorem unthread_last (h : p.retirePending = true ∧ p.bindCount = 1) :
    s.unthread n k = ((((s.letGo n).removeRecord p).latch .profileRetired).settle n, 0, true) := by
  rcases unbind_cases (s := s.letGo n) hp with ⟨-, -, e⟩ | ⟨e, -⟩
  · rw [unthread_eq, e]
  · exact absurd ⟨h.1, h.2.le⟩ e

/-- Another lane lets go of a record that stays. -/
theorem unthread_notLast (h : ¬(p.retirePending = true ∧ p.bindCount = 1)) (hpos : 1 ≤ p.bindCount) :
    s.unthread n k = (({ s.letGo n with
      profiles := replaceProfile s.profiles { p with bindCount := p.bindCount - 1 } } : State).settle n,
      p.bindCount - 1, false) := by
  rcases unbind_cases (s := s.letGo n) hp with ⟨hr, hle, -⟩ | ⟨-, e⟩
  · exact absurd ⟨hr, by omega⟩ h
  · rw [unthread_eq, e]
    rfl

theorem keepsAllBut_unthread_notLast (h : ¬(p.retirePending = true ∧ p.bindCount = 1)) (hpos : 1 ≤ p.bindCount) :
    KeepsAllBut [.profiles, .lane n, .arbiter] s (s.unthread n k).1 := by
  rw [unthread_notLast hp n h hpos]
  refine (((keepsAllBut_letGo s n).mono (by simp)).trans ?_).trans ((keepsAllBut_settle _ n).mono (by simp))
  exact ⟨fun q hq => by cases q <;> first | rfl | simp at hq, rfl⟩

end

/-- Settles O33: the lane lets go of its key, and its profile is unbound. -/
theorem lunthUnthreads : Obligations.LunthUnthreads := by
  intro s n h l
  have refused {r : Reply} (ht : takeLunth (laneBody n) s.taking = (s.taking, r)) :=
    h.exec_onlyAnswered (c := .lunth (laneBody n)) rfl rfl (by simp [laneBody]) ht
  refine ⟨fun k hk p hp hs hr => ?_, fun hs => refused (takeLunth_wrongState (s := s.taking) hs),
    fun hr => refused (takeLunth_residual (s := s.taking) (l.lane.hold n hr) hr)⟩
  have hu : (s.lane n).state ≠ .unthreaded := fun e => by simp [(l.binding.keyed n).2 e] at hk
  have take := takeLunth_taken (s := s.taking) hk hu hs (fun e => l.lane.broke n e hr) hr
  have kept := keepsAllBut_unthread s.taking n k
  set r : Reply := .done [byteOf (s.taking.unthread n k).2.1, flagByte (s.taking.unthread n k).2.2] with hreply
  have lane := (lane_answered (s.taking.unthread n k).1 0x09 r n).trans (lane_unthread s.taking n k)
  have port := prepareAnswer_port (s := s) (t := (s.taking.unthread n k).1.reform) (kept.1 .port (by simp)) 0x09
  have hpk : p.key = k := findProfile_key hp
  refine ⟨_, h.exec_request (code := 0x09) rfl rfl (by simp [laneBody]) take, (congrArg Lane.state lane :),
    (congrArg Lane.key lane :), (congrArg Lane.g lane :), (congrArg Lane.target lane :), (congrArg Lane.lead lane :),
    (congrArg Lane.overspeed lane :), (congrArg Lane.stamp lane :), (congrArg Lane.graceMs lane :),
    arbiter_unthread s.taking n k, fun j hj => findProfile_unbind_other _ hj, fun hlast => ?_, fun hlast => ?_,
    formedFrom_answered (s := s) (kept.1 .load (by simp)) _ _,
    keepsAllBut_answered (changed := [.profiles, .marks, .commit, .attention, .lane n, .arbiter, .load, .lines, .port])
      (kept.mono (by simp)) (by simp) (by simp) (by simp) _ _⟩
  · rw [unthread_last (s := s.taking) hp n hlast] at hreply port ⊢
    exact ⟨(port r).trans (by rw [hreply]; rfl), hpk ▸ findProfile_removeProfile_same ..,
      fun i hi => getLsbD_setMark _ _ hi, rfl, rfl⟩
  · have hpos := l.binding.bindCount_pos hk hp
    have same := keepsAllBut_unthread_notLast (s := s.taking) hp n hlast hpos
    rw [unthread_notLast (s := s.taking) hp n hlast hpos] at hreply port same ⊢
    have found : (findProfile s.profiles p.key).isSome := by rw [findProfile_self hp]; rfl
    exact ⟨(port r).trans (by rw [hreply]; rfl),
      hpk ▸ findProfile_replaceProfile_same (p := { p with bindCount := p.bindCount - 1 }) found,
      same.1 .marks (by simp), same.1 .attention (by simp), same.1 .commit (by simp)⟩

end Sys2Proof.Machine
end

section
/-! PROOF. The bytes of trim items read back (R156, R157), and what the items of a trim do to the copy as the statement
spells it by their bytes (R20, R21). -/

namespace Sys2Proof.Machine

/-! ## The nine shapes of an item -/

/-- The item that the bytes of one item spell (R156). -/
def itemOf (item : List Byte) : TrimItem :=
  match readItem item with
  | .item i _ => i
  | _ => .unknown

/-- The bytes of one item by its kind (R156). -/
inductive Spelled : List Byte → Prop
  | coverage (id v1 v0 : Byte) : Spelled [1, id, v1, v0]
  | rate (id v1 v0 : Byte) : Spelled [2, id, v1, v0]
  | add (a b c : Byte) : Spelled [3, a, b, c]
  | remove (id : Byte) : Spelled [4, id]
  | temperature (k field v1 v0 : Byte) : Spelled [5, k, field, v1, v0]
  | bound (k v1 v0 : Byte) : Spelled [6, k, v1, v0]
  | tolerance (v : Byte) : Spelled [7, v]
  | override (v : Byte) : Spelled [8, v]
  | clear : Spelled [9]

theorem ItemShape.spelled {item : List Byte} (h : ItemShape item) : Spelled item := by
  obtain ⟨kind, rest, rfl, hkind, hlength⟩ := h
  have hk : kind.toNat - 1 < itemLengths.length := (List.getElem?_eq_some_iff.1 hlength).1
  obtain ⟨j, hj, hj9⟩ : ∃ j, kind.toNat = j ∧ j ≤ 9 := ⟨_, rfl, by simp [itemLengths] at hk; omega⟩
  have hkind' : kind = byteOf j := by rw [← hj]; simp [byteOf]
  rw [hj] at hkind hlength
  subst hkind'
  interval_cases j <;> simp [itemLengths] at hlength
  · match rest, hlength with | [id, v1, v0], _ => exact .coverage id v1 v0
  · match rest, hlength with | [id, v1, v0], _ => exact .rate id v1 v0
  · match rest, hlength with | [a, b, c], _ => exact .add a b c
  · match rest, hlength with | [id], _ => exact .remove id
  · match rest, hlength with | [k, field, v1, v0], _ => exact .temperature k field v1 v0
  · match rest, hlength with | [k, v1, v0], _ => exact .bound k v1 v0
  · match rest, hlength with | [v], _ => exact .tolerance v
  · match rest, hlength with | [v], _ => exact .override v
  · subst hlength; exact .clear

theorem itemOf_coverage (id v1 v0 : Byte) :
    itemOf [1, id, v1, v0] = .setCoverage id.toNat (v1.toNat * 256 + v0.toNat) := rfl
theorem itemOf_rate (id v1 v0 : Byte) :
    itemOf [2, id, v1, v0] = .setRate id.toNat (v1.toNat * 256 + v0.toNat) := rfl
theorem itemOf_add (a b c : Byte) : itemOf [3, a, b, c] = .addCouple (readCouple a b c) := rfl
theorem itemOf_remove (id : Byte) : itemOf [4, id] = .removeCouple id.toNat := rfl
theorem itemOf_temperature (k field v1 v0 : Byte) :
    itemOf [5, k, field, v1, v0] = .setBandField k.toNat field.toNat (v1.toNat * 256 + v0.toNat) := rfl
theorem itemOf_bound (k v1 v0 : Byte) :
    itemOf [6, k, v1, v0] = .setBandBound k.toNat (v1.toNat * 256 + v0.toNat) := rfl
theorem itemOf_tolerance (v : Byte) : itemOf [7, v] = .setTolerance v.toNat := rfl
theorem itemOf_override (v : Byte) : itemOf [8, v] = .setOverride v.toNat := rfl
theorem itemOf_clear : itemOf [9] = .clearOverride := rfl

section
variable {item : List Byte} (h : Spelled item)
include h

theorem Spelled.readItem_append (rest : List Byte) : readItem (item ++ rest) = .item (itemOf item) rest := by
  cases h <;> rfl

theorem Spelled.length : 1 ≤ item.length ∧ item.length ≤ 5 := by
  cases h <;> simp

/-- An item takes a couple away exactly where its kind is 4. -/
theorem Spelled.isRemove : (itemOf item).isRemove = true ↔ item.head? = some 4 := by
  cases h <;> simp only [itemOf_coverage, itemOf_rate, itemOf_add, itemOf_remove, itemOf_temperature, itemOf_bound,
    itemOf_tolerance, itemOf_override, itemOf_clear, TrimItem.isRemove, List.head?_cons] <;> decide

/-- An item sets a bound exactly where its kind is 6. -/
theorem Spelled.isBound : (itemOf item).isBound = true ↔ item.head? = some 6 := by
  cases h <;> simp only [itemOf_coverage, itemOf_rate, itemOf_add, itemOf_remove, itemOf_temperature, itemOf_bound,
    itemOf_tolerance, itemOf_override, itemOf_clear, TrimItem.isBound, List.head?_cons] <;> decide

end

/-! ## The items of a body -/

section
variable {items : List (List Byte)} (h : ∀ i ∈ items, Spelled i)
include h

theorem readItems_append (n : Nat) (rest : List Byte) :
    readItems (items.length + n) (items.flatten ++ rest) = (readItems n rest).map (items.map itemOf ++ ·) := by
  induction items with
  | nil => simp
  | cons i is ih =>
    have hi := (h i (by simp)).readItem_append (is.flatten ++ rest)
    rw [List.flatten_cons, List.append_assoc, List.length_cons, Nat.add_right_comm, readItems, hi]
    simp [ih fun j hj => h j (by simp [hj]), Function.comp_def]

theorem readItems_flatten : readItems items.length items.flatten = some (items.map itemOf) := by
  simpa [readItems] using readItems_append h 0 []

theorem flatten_length_le : items.flatten.length ≤ 5 * items.length := by
  induction items with
  | nil => simp
  | cons i is ih =>
    have := (h i (by simp)).length
    have := ih fun j hj => h j (by simp [hj])
    simp only [List.flatten_cons, List.length_append, List.length_cons]
    omega

/-- A count of more or fewer items than there are does not agree with the length (R157). -/
theorem readItems_disagrees {n : Nat} (hn : n ≠ items.length) : readItems n items.flatten = none := by
  induction items generalizing n with
  | nil =>
    cases n with
    | zero => exact absurd rfl hn
    | succ n => rfl
  | cons i is ih =>
    have hi := (h i (by simp)).readItem_append is.flatten
    have hlength := (h i (by simp)).length
    rw [List.flatten_cons]
    cases n with
    | zero =>
      rw [readItems, if_neg]
      exact fun e => by simp_all
    | succ n =>
      rw [readItems, hi]
      simp [ih (fun j hj => h j (by simp [hj])) (n := n) (by simpa using hn)]

end

theorem readItem_unknown {kind : Byte} (h : kind = 0 ∨ 9 < kind.toNat) (rest : List Byte) :
    readItem (kind :: rest) = .unknownKind := by
  rcases h with rfl | h
  · rfl
  · obtain ⟨j, hj⟩ := Nat.exists_eq_add_of_lt h
    have hj : kind.toNat = j + 10 := by omega
    simp [readItem, hj]

/-- An unknown kind ends the length test where a byte is left for each item to come (R157). -/
theorem readItems_unknown {kind : Byte} (h : kind = 0 ∨ 9 < kind.toNat) {more : Nat} {rest : List Byte}
    (hm : more ≤ rest.length) : readItems (more + 1) (kind :: rest) = some [.unknown] := by
  rw [readItems, readItem_unknown h]
  exact if_pos (by simpa using hm)

end Sys2Proof.Machine
end

section
/-! PROOF. What the items of a trim do to the working copy, as the statement spells it and as the model applies it. -/

namespace Sys2Proof.Machine

/-! ## One item -/

/-- A couple that comes into couples of differing ids has another id than each that was there. -/
theorem ne_of_perm_cons {c : Couple} {cs ds : List Couple} (hp : ds.Perm (c :: cs))
    (hd : ds.Pairwise fun c d => c.id < d.id) : ∀ d ∈ cs, d.id ≠ c.id := fun d hdm =>
  have hpair := (hp.pairwise_iff (R := fun c d : Couple => c.id ≠ d.id) fun h => h.symm).1 (hd.imp Nat.ne_of_lt)
  ((List.pairwise_cons.1 hpair).1 d hdm).symm

/-- Strictly ascending couples are the only arrangement of themselves, so a couple is put in at one place. -/
theorem eq_insertCouple {c : Couple} {cs ds : List Couple} (hp : ds.Perm (c :: cs))
    (hd : ds.Pairwise fun c d => c.id < d.id) (hc : cs.Pairwise fun c d => c.id < d.id) : ds = insertCouple c cs :=
  (hp.trans (insertCouple_perm c cs).symm).eq_of_pairwise (fun _ _ _ _ h h' => absurd (h.trans h') (lt_irrefl _)) hd
    (insertCouple_ascending hc (ne_of_perm_cons hp hd))

theorem bandAt_eq {bs : List Band} {k : Nat} {b : Band} (hb : bs[k - 1]? = some b) : bandAt bs k = b := by
  simp [bandAt, List.getD_eq_getElem?_getD, hb]

/-- The bytes of a couple are those of the word that they spell (R155). -/
theorem be3_readCouple (a b c : Byte) :
    be3 ((readCouple a b c).id * 1048576 + (readCouple a b c).rate * 1024 + (readCouple a b c).coverage) =
      [a, b, c] := by
  have hword : (readCouple a b c).id * 1048576 + (readCouple a b c).rate * 1024 + (readCouple a b c).coverage =
      a.toNat * 65536 + b.toNat * 256 + c.toNat := by
    simp only [readCouple, coupleOfWord]
    omega
  rw [hword]
  simp only [be3, List.cons.injEq, and_true]
  refine ⟨?_, ?_, ?_⟩ <;> apply BitVec.eq_of_toNat_eq <;> rw [byteOf_toNat] <;> omega

theorem Trims.spelled {f g : ProfileFields} {item : List Byte} (h : Trims f item g) : Spelled item := by
  cases h <;> constructor

theorem filter_ne_eq (cs : List Couple) (id : Nat) : cs.filter (·.id != id) = cs.filter fun c => c.id ≠ id :=
  List.filter_congr fun c _ => by simp [bne, beq_eq_decide]

/-- An item that the statement allows is one that the model applies, with the same result. -/
theorem Trims.applyItem {f g : ProfileFields} {item : List Byte} (h : Trims f item g) (l : CopyLaw f) :
    f.applyItem (itemOf item) = some g := by
  cases h with
  | coverage id v1 v0 hc hv => exact if_pos (by simpa using ⟨hasCouple_eq_true.2 hc, hv⟩)
  | rate id v1 v0 hc hv => exact if_pos (by simpa using ⟨hasCouple_eq_true.2 hc, hv⟩)
  | add c cs h1 h8 hcov hrate hlen hp hasc =>
    have hread : itemOf (3 :: be3 c.word) = .addCouple c :=
      congrArg TrimItem.addCouple (readCouple_word (c := c) ⟨by omega, by omega, by omega⟩)
    have hnew : hasCouple f.couples c.id = false := by
      rw [← Bool.not_eq_true, hasCouple_eq_true]
      rintro ⟨d, hd, hid⟩
      exact ne_of_perm_cons hp hasc d hd hid
    rw [eq_insertCouple hp hasc l.couplesAscend]
    show f.applyItem (itemOf (3 :: be3 c.word)) = _
    rw [hread]
    exact if_pos (by simp [h1, h8, hcov, hrate, hlen, hnew])
  | remove id hc =>
    rw [← filter_ne_eq]
    exact if_pos (hasCouple_eq_true.2 hc)
  | temperature k field v1 v0 b c hk hb hfield =>
    have hlength : k.toNat - 1 < f.bands.length := (List.getElem?_eq_some_iff.1 hb).1
    have hset : b.setField field.toNat (v1.toNat * 256 + v0.toNat) = some c := by
      rcases hfield with ⟨rfl, rfl, hv⟩ | ⟨rfl, rfl, hv⟩ | ⟨rfl, rfl, hv⟩ | ⟨rfl, rfl, hv⟩ | ⟨rfl, rfl, hv⟩ <;>
        exact if_pos (within_eq_true.2 hv)
    rw [itemOf_temperature, ProfileFields.applyItem, if_pos (within_eq_true.2 ⟨hk, by omega⟩), bandAt_eq hb, hset]
    simp [modBand_eq_set hb]
  | bound k v1 v0 b hk hb hlo hhi h5 =>
    have hlength : k.toNat - 1 < f.bands.length := (List.getElem?_eq_some_iff.1 hb).1
    rw [itemOf_bound, ProfileFields.applyItem, modBand_eq_set hb, if_pos]
    simp only [Bool.and_eq_true, within_eq_true, beq_iff_eq]
    exact ⟨⟨⟨hk, by omega⟩, hlo, hhi⟩, h5⟩
  | tolerance v h5 h40 => exact if_pos (within_eq_true.2 ⟨h5, h40⟩)
  | override v h5 h120 => exact if_pos (within_eq_true.2 ⟨h5, h120⟩)
  | clear => rfl

/-- An item that the model applies is one that the statement allows, with the same result. -/
theorem Spelled.trims {f g : ProfileFields} {item : List Byte} (hs : Spelled item) (l : CopyLaw f)
    (h : f.applyItem (itemOf item) = some g) : Trims f item g := by
  cases hs <;> simp only [itemOf_coverage, itemOf_rate, itemOf_add, itemOf_remove, itemOf_temperature, itemOf_bound,
    itemOf_tolerance, itemOf_override, itemOf_clear, ProfileFields.applyItem, Option.ite_none_right_eq_some,
    Option.some.injEq, Bool.and_eq_true, decide_eq_true_eq, within_eq_true, Bool.not_eq_true', Option.map_eq_some_iff,
    hasCouple_eq_true, beq_iff_eq] at h
  case coverage id v1 v0 =>
    obtain ⟨⟨hc, hv⟩, rfl⟩ := h
    exact .coverage id v1 v0 hc hv
  case rate id v1 v0 =>
    obtain ⟨⟨hc, hv⟩, rfl⟩ := h
    exact .rate id v1 v0 hc hv
  case add a b c =>
    obtain ⟨⟨⟨⟨⟨hid, hnew⟩, hlen⟩, hcov⟩, hrate⟩, rfl⟩ := h
    have hne : ∀ d ∈ f.couples, d.id ≠ (readCouple a b c).id := by simpa [hasCouple] using hnew
    have ht := Trims.add (readCouple a b c) (insertCouple (readCouple a b c) f.couples) hid.1 hid.2 hcov hrate hlen
      (insertCouple_perm ..) (insertCouple_ascending l.couplesAscend hne)
    rwa [be3_readCouple] at ht
  case remove id =>
    obtain ⟨hc, rfl⟩ := h
    rw [filter_ne_eq]
    exact .remove id hc
  case temperature k field v1 v0 =>
    obtain ⟨hk, c, hc, rfl⟩ := h
    have hget := bandAt_getElem? hk
    rw [modBand_eq_set hget]
    refine .temperature k field v1 v0 _ c hk.1 hget ?_
    rcases Band.setField_eq_some.1 hc with h | h | h | h | h <;> obtain ⟨hf, hv, rfl⟩ := h
    · exact .inl ⟨BitVec.eq_of_toNat_eq hf, rfl, hv⟩
    · exact .inr (.inl ⟨BitVec.eq_of_toNat_eq hf, rfl, hv⟩)
    · exact .inr (.inr (.inl ⟨BitVec.eq_of_toNat_eq hf, rfl, hv⟩))
    · exact .inr (.inr (.inr (.inl ⟨BitVec.eq_of_toNat_eq hf, rfl, hv⟩)))
    · exact .inr (.inr (.inr (.inr ⟨BitVec.eq_of_toNat_eq hf, rfl, hv⟩)))
  case bound k v1 v0 =>
    obtain ⟨⟨⟨hk, hv⟩, h5⟩, rfl⟩ := h
    have hget := bandAt_getElem? hk
    rw [modBand_eq_set hget]
    exact .bound k v1 v0 _ hk.1 hget hv.1 hv.2 h5
  case tolerance v =>
    obtain ⟨hv, rfl⟩ := h
    exact .tolerance v hv.1 hv.2
  case override v =>
    obtain ⟨hv, rfl⟩ := h
    exact .override v hv.1 hv.2
  case clear =>
    subst h
    exact .clear

/-! ## The items together -/

theorem TrimsAll.spelled {f g : ProfileFields} {items : List (List Byte)} (h : TrimsAll f items g) :
    ∀ i ∈ items, Spelled i := by
  induction h with
  | done f => simp
  | item hi _ ih => exact fun i hm => (List.mem_cons.1 hm).elim (· ▸ hi.spelled) (ih i)

theorem TrimsAll.copyLaw {f g : ProfileFields} {items : List (List Byte)} (h : TrimsAll f items g) (l : CopyLaw f) :
    CopyLaw g := by
  induction h with
  | done f => exact l
  | item hi _ ih => exact ih (l.applyItem (hi.applyItem l))

/-- Items that the statement allows are applied before those that come after them (R20). -/
theorem TrimsAll.applyItems {f g : ProfileFields} {items : List (List Byte)} (h : TrimsAll f items g) (l : CopyLaw f)
    (k : Nat) (rest : List TrimItem) :
    f.applyItems k (items.map itemOf ++ rest) = g.applyItems (k + items.length) rest := by
  induction h generalizing k with
  | done f => rfl
  | item hi _ ih =>
    have ha := hi.applyItem l
    rw [List.map_cons, List.cons_append, ProfileFields.applyItems, ha]
    show ProfileFields.applyItems _ _ _ = _
    rw [ih (l.applyItem ha), List.length_cons]
    congr 1
    omega

/-- An item that the copy refuses ends the trim at its position (R20). -/
theorem TrimsAll.trimmed_bad {f g : ProfileFields} {items : List (List Byte)} (h : TrimsAll f items g) (l : CopyLaw f)
    {bad : TrimItem} (hb : g.applyItem bad = none) (rest : List TrimItem) :
    f.trimmed (items.map itemOf ++ bad :: rest) = .error (items.length + 1) := by
  rw [ProfileFields.trimmed, h.applyItems l, ProfileFields.applyItems, hb, Nat.add_comm 1]

theorem TrimsAll.trimmed {f g : ProfileFields} {items : List (List Byte)} (h : TrimsAll f items g) (l : CopyLaw f) :
    f.trimmed (items.map itemOf) =
      if g.couples = [] then .error (lastPosition TrimItem.isRemove 1 (items.map itemOf))
      else if !boundsIncrease g.bands then .error (lastPosition TrimItem.isBound 1 (items.map itemOf))
      else .ok g := by
  have ha := h.applyItems l 1 []
  rw [List.append_nil] at ha
  rw [ProfileFields.trimmed, ha]
  rfl

/-! ## The last item of a kind -/

theorem lastPosition_eq_zero {test : TrimItem → Bool} {items : List TrimItem} (h : ∀ i ∈ items, test i = false)
    (k : Nat) : lastPosition test k items = 0 := by
  induction items generalizing k with
  | nil => rfl
  | cons i is ih =>
    rw [lastPosition, ih fun j hj => h j (by simp [hj])]
    simp [h i (by simp)]

/-- The last item that passes a test is found where it stands. -/
theorem lastPosition_eq {test : TrimItem → Bool} {items : List TrimItem} {i : TrimItem} {j : Nat}
    (hi : items[j]? = some i) (ht : test i = true) (hlast : ∀ m k, j < m → items[m]? = some k → test k = false)
    {k : Nat} (hk : 1 ≤ k) : lastPosition test k items = k + j := by
  induction items generalizing j k with
  | nil => simp at hi
  | cons a is ih =>
    cases j with
    | zero =>
      have hrest : ∀ b ∈ is, test b = false := fun b hb => by
        obtain ⟨m, hm⟩ := List.mem_iff_getElem?.1 hb
        exact hlast (m + 1) b (by omega) (by simpa using hm)
      have ha : a = i := by simpa using hi
      rw [lastPosition, lastPosition_eq_zero hrest]
      simp [ha, ht]
    | succ j =>
      have := ih (j := j) (k := k + 1) (by simpa using hi)
        (fun m b hm hb => hlast (m + 1) b (by omega) (by simpa using hb)) (by omega)
      rw [lastPosition, this, show k + 1 + j = (k + j) + 1 by omega]
      show k + j + 1 = _
      omega

/-- The item that the statement calls the last of its kind is the one that BAD_FIELD names (R21). -/
theorem LastOfKind.lastPosition {kind : Byte} {items : List (List Byte)} {position : Nat}
    (h : LastOfKind kind items position)
    {test : TrimItem → Bool} (ht : ∀ i ∈ items, test (itemOf i) = true ↔ i.head? = some kind) :
    lastPosition test 1 (items.map itemOf) = position := by
  obtain ⟨hpos, ⟨item, hitem, hhead⟩, hlast⟩ := h
  rw [lastPosition_eq (i := itemOf item) (j := position - 1) (by simp [hitem])
    ((ht item (List.mem_of_getElem? hitem)).2 hhead) (fun m i hm hi => ?_) (le_refl 1)]
  · omega
  · simp only [List.getElem?_map, Option.map_eq_some_iff] at hi
    obtain ⟨b, hb, rfl⟩ := hi
    rw [← Bool.not_eq_true, ht b (List.mem_of_getElem? hb)]
    exact hlast m b (by omega) hb

end Sys2Proof.Machine
end

section
/-! PROOF. What an accepted trim does to one lane bound to the profile (R60), as a rule of the lane's record alone. -/

namespace Sys2Proof.Machine

/-! ## A lane record under the clamps of a trim -/

/-- A lane record whose target a trim lowers or clears (R60). -/
def Lane.targetClamped (l : Lane) (max : Nat) : Lane :=
  match l.target with
  | some t =>
    if max < t then
      if max ≤ l.g then { l.clearLead with target := none } else { l with target := some max }
    else l
  | none => l

/-- A lane record whose lead a trim clears where it is no longer needed (R60). -/
def Lane.leadClamped (l : Lane) (bands : List Band) : Lane :=
  match l.lead, l.target with
  | some d, some t => if t ≤ boundOf bands l.g ∨ d.band ≤ bandOf bands l.g then l.clearLead else l
  | _, _ => l

theorem lane_clampTarget (s : State) (n : LaneId) (max : Nat) :
    (s.clampTarget n max).lane n = (s.lane n).targetClamped max := by
  unfold State.clampTarget Lane.targetClamped
  cases (s.lane n).target with
  | none => rfl
  | some t =>
    dsimp only
    split
    · split
      · exact State.lane_removeTarget_same ..
      · exact State.lane_modLane_same ..
    · rfl

theorem lane_clampLead (s : State) (n : LaneId) (bands : List Band) :
    (s.clampLead n bands).lane n = (s.lane n).leadClamped bands := by
  unfold State.clampLead Lane.leadClamped
  dsimp only
  cases (s.lane n).lead with
  | none => rfl
  | some d =>
    cases (s.lane n).target with
    | none => rfl
    | some t =>
      dsimp only
      split
      · exact State.lane_modLane_same ..
      · rfl

/-- The records of a lane that no trim moves. -/
structure Steady (l m : Lane) : Prop where
  key : m.key = l.key
  measured : m.measured = l.measured
  overCount : m.overCount = l.overCount
  overspeed : m.overspeed = l.overspeed
  stamp : m.stamp = l.stamp
  residual : m.residual = l.residual
  residualMs : m.residualMs = l.residualMs
  encoder : m.encoder = l.encoder

theorem Steady.trans {l m k : Lane} (h : Steady l m) (h' : Steady m k) : Steady l k :=
  ⟨h'.key.trans h.key, h'.measured.trans h.measured, h'.overCount.trans h.overCount, h'.overspeed.trans h.overspeed,
    h'.stamp.trans h.stamp, h'.residual.trans h.residual, h'.residualMs.trans h.residualMs, h'.encoder.trans h.encoder⟩

theorem Steady.eq_with {l m : Lane} (h : Steady l m) :
    m = { l with
      g := m.g, state := m.state, target := m.target, graceMs := m.graceMs, lead := m.lead, leadMs := m.leadMs
      hotWeb := m.hotWeb, inBand := m.inBand } := by
  rw [← h.key, ← h.measured, ← h.overCount, ← h.overspeed, ← h.stamp, ← h.residual, ← h.residualMs, ← h.encoder]

theorem steady_judged (l : Lane) (b : Option Bool) : Steady l (l.judged b) := by constructor <;> simp

theorem steady_decreased (l : Lane) (g crawl graceMs : Nat) : Steady l (l.decreased g crawl graceMs) := by
  unfold Lane.decreased
  dsimp only
  split <;> constructor <;> rfl

/-- The clamp of the lead moves the lead alone (R60). -/
theorem leadClamped_cases (l : Lane) (bands : List Band) :
    l.leadClamped bands = l ∧ (∀ d, l.lead = some d → ∀ T, l.target = some T →
        ¬(T ≤ boundOf bands l.g ∨ d.band ≤ bandOf bands l.g)) ∨
      l.leadClamped bands = l.clearLead ∧ ∃ d, l.lead = some d ∧ ∃ T, l.target = some T ∧
        (T ≤ boundOf bands l.g ∨ d.band ≤ bandOf bands l.g) := by
  unfold Lane.leadClamped
  cases hd : l.lead with
  | none => exact .inl ⟨rfl, nofun⟩
  | some d =>
    cases hT : l.target with
    | none => exact .inl ⟨rfl, nofun⟩
    | some T =>
      by_cases h : T ≤ boundOf bands l.g ∨ d.band ≤ bandOf bands l.g
      · exact .inr ⟨if_pos h, d, rfl, T, rfl, h⟩
      · exact .inl ⟨if_neg h, fun _ e _ e' => by cases e; cases e'; exact h⟩

/-- The clamp of the target leaves it, clears it with its lead, or lowers it (R60). -/
theorem targetClamped_cases (l : Lane) (max : Nat) :
    l.targetClamped max = l ∧ (∀ T, l.target = some T → T ≤ max) ∨
      ∃ T, l.target = some T ∧ max < T ∧
        (l.targetClamped max = { l.clearLead with target := none } ∧ max ≤ l.g ∨
          l.targetClamped max = { l with target := some max } ∧ l.g < max) := by
  unfold Lane.targetClamped
  cases hT : l.target with
  | none => exact .inl ⟨rfl, nofun⟩
  | some T =>
    dsimp only
    by_cases h : max < T
    · rw [if_pos h]
      by_cases hg : max ≤ l.g
      · exact .inr ⟨T, rfl, h, .inl ⟨if_pos hg, hg⟩⟩
      · exact .inr ⟨T, rfl, h, .inr ⟨if_neg hg, Nat.lt_of_not_le hg⟩⟩
    · exact .inl ⟨if_neg h, fun _ e => by cases e; exact Nat.le_of_not_lt h⟩

/-- What the clamps of target and lead make of a lane: nothing else of it moves. -/
structure Clamped (l m : Lane) (bands : List Band) (max : Nat) : Prop where
  frame : m = { l with target := m.target, lead := m.lead, leadMs := m.leadMs }
  target : ∀ T, l.target = some T → m.target = if T ≤ max then some T else if max ≤ l.g then none else some max
  noTarget : l.target = none → m.target = none
  noLead : l.lead = none ∨ (l.lead ≠ none → l.target ≠ none) ∧ m.target = none → m.lead = none
  leadMs : m.lead = none → l.lead ≠ none ∨ l.leadMs = 0 → m.leadMs = 0
  lead : ∀ d, l.lead = some d → ∀ T, m.target = some T →
    if T ≤ boundOf bands l.g ∨ d.band ≤ bandOf bands l.g then m.lead = none else m.lead = some d ∧ m.leadMs = l.leadMs

theorem clamped (l : Lane) (bands : List Band) (max : Nat) :
    Clamped l ((l.targetClamped max).leadClamped bands) bands max := by
  rcases targetClamped_cases l max with ⟨e, hT⟩ | ⟨T, hT, hmax, ⟨e, hg⟩ | ⟨e, hg⟩⟩ <;> rw [e]
  case' inl => rcases leadClamped_cases l bands with ⟨e, hd⟩ | ⟨e, d, hd, T, hT', hlead⟩ <;> rw [e]
  case' inr.inr =>
    rcases leadClamped_cases { l with target := some max } bands with ⟨e, hd⟩ | ⟨e, d, hd, U, hU, hlead⟩ <;> rw [e]
  case inl.inl => constructor <;> grind
  case inl.inr => constructor <;> grind [Lane.clearLead]
  case inr.inl => constructor <;> grind [Lane.clearLead, Lane.leadClamped]
  case inr.inr.inl => constructor <;> grind
  case inr.inr.inr => constructor <;> grind [Lane.clearLead]

section
variable {l m : Lane} {bands : List Band} {max : Nat} (c : Clamped l m bands max)
include c

theorem Clamped.state : m.state = l.state := (congrArg Lane.state c.frame :)
theorem Clamped.g : m.g = l.g := (congrArg Lane.g c.frame :)
theorem Clamped.graceMs : m.graceMs = l.graceMs := (congrArg Lane.graceMs c.frame :)
theorem Clamped.hotWeb : m.hotWeb = l.hotWeb := (congrArg Lane.hotWeb c.frame :)
theorem Clamped.steady : Steady l m := by rw [c.frame]; constructor <;> rfl

end

/-! ## A lane record under a whole trim -/

theorem Lane.judged_running (l : Lane) (b : Option Bool) : (l.judged b).state = .running ↔ l.state = .running := by
  rcases l.judged_state b with h | ⟨h, -, h'⟩ | ⟨h, -, h'⟩ <;> simp [*]

theorem Lane.judged_still {l : Lane} (h : l.state.moving = false) (b : Option Bool) : (l.judged b).state = l.state := by
  rcases l.judged_state b with h' | ⟨h', -, -⟩ | ⟨h', -, -⟩
  · exact h'
  · simp [h', LaneState.moving] at h
  · simp [h', LaneState.moving] at h

theorem Lane.judged_lead (l : Lane) (b : Option Bool) : (l.judged b).lead = none ↔ l.lead = none := by
  rcases b with _ | _ | _ <;> simp [Lane.judged]

section
variable (l : Lane) (g crawl graceMs : Nat)

theorem Lane.decreased_g : (l.decreased g crawl graceMs).g = g := by unfold Lane.decreased; dsimp only; split <;> rfl
theorem Lane.decreased_target : (l.decreased g crawl graceMs).target = l.target := by
  unfold Lane.decreased; dsimp only; split <;> rfl
theorem Lane.decreased_graceMs : (l.decreased g crawl graceMs).graceMs = graceMs := by
  unfold Lane.decreased; dsimp only; split <;> rfl
theorem Lane.decreased_lead : (l.decreased g crawl graceMs).lead = none := by
  unfold Lane.decreased; dsimp only; split <;> rfl
theorem Lane.decreased_leadMs : (l.decreased g crawl graceMs).leadMs = 0 := by
  unfold Lane.decreased; dsimp only; split <;> rfl

/-- A RUNNING lane lowered to crawl or below is READY and loses its hot-web count (R49, R43). -/
theorem Lane.decreased_leaves (h : l.state = .running ∧ g ≤ crawl) :
    (l.decreased g crawl graceMs).state = .ready ∧ (l.decreased g crawl graceMs).hotWeb = 0 := by
  have e : l.decreased g crawl graceMs =
      { ({ l.clearLead with g := g, graceMs := graceMs } : Lane).leaveRunning with state := .ready } := if_pos h
  rw [e]
  exact ⟨rfl, if_pos h.1⟩

theorem Lane.decreased_stays (h : ¬(l.state = .running ∧ g ≤ crawl)) :
    (l.decreased g crawl graceMs).state = l.state ∧ (l.decreased g crawl graceMs).hotWeb = l.hotWeb := by
  have e : l.decreased g crawl graceMs = { l.clearLead with g := g, graceMs := graceMs } := if_neg h
  rw [e]
  exact ⟨rfl, rfl⟩

theorem Lane.decreased_moving : (l.decreased g crawl graceMs).state.moving = l.state.moving := by
  by_cases h : l.state = .running ∧ g ≤ crawl
  · rw [(l.decreased_leaves g crawl graceMs h).1, h.1]; rfl
  · rw [(l.decreased_stays g crawl graceMs h).1]

end

/-- What an accepted trim makes of a lane bound to the profile (R60, R49). -/
structure Trimmed (l m : Lane) (bands : List Band) (crawl graceMs : Nat) : Prop where
  steady : Steady l m
  g : m.g = min l.g (maxSpeed bands)
  graceMs : m.graceMs = if maxSpeed bands < l.g then graceMs else l.graceMs
  hotWeb : m.hotWeb = if l.state = .running ∧ m.state ≠ .running then 0 else l.hotWeb
  running : m.state = .running ↔ l.state = .running ∧ ¬(maxSpeed bands < l.g ∧ maxSpeed bands ≤ crawl)
  moving : m.state.moving = l.state.moving
  still : l.state.moving = false → m.state = l.state
  leadGone : maxSpeed bands < l.g ∨ m.target = none ∨ l.lead = none → m.lead = none
  leadMs : m.lead = none → l.lead ≠ none → m.leadMs = 0
  leadKept : l.g ≤ maxSpeed bands → ∀ d, l.lead = some d → ∀ T, m.target = some T →
    if T ≤ boundOf bands m.g ∨ d.band ≤ bandOf bands m.g then m.lead = none
    else m.lead.map (·.band) = some d.band ∧ m.leadMs = l.leadMs
  target : ∀ T, l.target = some T → m.target =
    if T ≤ maxSpeed bands then some T else if maxSpeed bands ≤ l.g then none else some (maxSpeed bands)
  noTarget : l.target = none → m.target = none

section
variable {l m : Lane} {bands : List Band}

/-- A lane within the new maximum is clamped and judged. -/
theorem Clamped.trimmed (c : Clamped l m bands (maxSpeed bands)) (hq : l.lead ≠ none → l.target ≠ none)
    (h : l.g ≤ maxSpeed bands) (z : Option Bool) (crawl graceMs : Nat) : Trimmed l (m.judged z) bands crawl graceMs where
  steady := c.steady.trans (steady_judged m z)
  g := by rw [Lane.judged_g, c.g, Nat.min_eq_left h]
  graceMs := by rw [Lane.judged_graceMs, c.graceMs, if_neg (Nat.not_lt.2 h)]
  hotWeb := by simp [Lane.judged_running, c.state, c.hotWeb]
  running := by simp [Lane.judged_running, c.state, Nat.not_lt.2 h]
  moving := by rw [Lane.judged_moving, c.state]
  still hs := by rw [Lane.judged_still (c.state ▸ hs), c.state]
  leadGone hl := by
    rw [Lane.judged_lead]
    rw [Lane.judged_target] at hl
    rcases hl with hl | hl | hl
    · exact absurd h (Nat.not_le.2 hl)
    · exact c.noLead (.inr ⟨hq, hl⟩)
    · exact c.noLead (.inl hl)
  leadMs hl hd := by
    rw [Lane.judged_leadMs]
    exact c.leadMs ((Lane.judged_lead m z).1 hl) (.inl hd)
  leadKept _ d hd T hT := by
    rw [Lane.judged_target] at hT
    rw [Lane.judged_g, c.g, Lane.judged_lead, Lane.judged_leadBand, Lane.judged_leadMs]
    have := c.lead d hd T hT
    split
    next hcond => rwa [if_pos hcond] at this
    next hcond =>
      rw [if_neg hcond] at this
      rw [this.1]
      exact ⟨rfl, this.2⟩
  target T hT := by rw [Lane.judged_target, c.target T hT]
  noTarget hT := by rw [Lane.judged_target, c.noTarget hT]

/-- A lane above the new maximum is lowered to it and judged, and then clamped and judged again. -/
theorem Clamped.lowered {crawl graceMs : Nat} {b : Option Bool}
    (c : Clamped ((l.decreased (maxSpeed bands) crawl graceMs).judged b) m bands (maxSpeed bands))
    (h : maxSpeed bands < l.g) (z : Option Bool) : Trimmed l (m.judged z) bands crawl graceMs := by
  have hstate : m.state = ((l.decreased (maxSpeed bands) crawl graceMs).judged b).state := c.state
  have hhot : m.hotWeb = (l.decreased (maxSpeed bands) crawl graceMs).hotWeb := by rw [c.hotWeb, Lane.judged_hotWeb]
  have hlead : (m.judged z).lead = none :=
    (Lane.judged_lead m z).2 (c.noLead (.inl ((Lane.judged_lead _ b).2 (Lane.decreased_lead ..))))
  have hrunning : (m.judged z).state = .running ↔ l.state = .running ∧ ¬maxSpeed bands ≤ crawl := by
    rw [Lane.judged_running, hstate, Lane.judged_running]
    by_cases hr : l.state = .running ∧ maxSpeed bands ≤ crawl
    · rw [(l.decreased_leaves _ _ graceMs hr).1]
      simp [hr]
    · rw [(l.decreased_stays _ _ graceMs hr).1]
      tauto
  refine
    { steady := ((steady_decreased ..).trans (steady_judged _ b)).trans (c.steady.trans (steady_judged m z))
      g := by rw [Lane.judged_g, c.g, Lane.judged_g, Lane.decreased_g, Nat.min_eq_right h.le]
      graceMs := by rw [Lane.judged_graceMs, c.graceMs, Lane.judged_graceMs, Lane.decreased_graceMs, if_pos h]
      hotWeb := ?_
      running := by rw [hrunning]; simp [h]
      moving := ?_
      still := fun hs => ?_
      leadGone := fun _ => hlead
      leadMs := fun _ hd => ?_
      leadKept := fun hle => absurd h (Nat.not_lt.2 hle)
      target := fun T hT => ?_
      noTarget := fun hT => ?_ }
  · simp only [Lane.judged_hotWeb, hhot, ne_eq, hrunning]
    by_cases hr : l.state = .running ∧ maxSpeed bands ≤ crawl
    · rw [(l.decreased_leaves _ _ graceMs hr).2, if_pos (by tauto)]
    · rw [(l.decreased_stays _ _ graceMs hr).2, if_neg (by tauto)]
  · rw [Lane.judged_moving, hstate, Lane.judged_moving, Lane.decreased_moving]
  · have hstays := (l.decreased_stays (maxSpeed bands) crawl graceMs fun hr => by simp [hr.1, LaneState.moving] at hs).1
    rw [Lane.judged_still, hstate, Lane.judged_still, hstays]
    · rw [hstays, hs]
    · rw [hstate, Lane.judged_moving, Lane.decreased_moving, hs]
  · rw [Lane.judged_leadMs]
    exact c.leadMs ((Lane.judged_lead m z).1 hlead) (.inr (by rw [Lane.judged_leadMs, Lane.decreased_leadMs]))
  · rw [Lane.judged_target, c.target T (by rw [Lane.judged_target, Lane.decreased_target, hT]), Lane.judged_g,
      Lane.decreased_g, if_pos (le_refl _), if_pos h.le]
  · rw [Lane.judged_target, c.noTarget (by rw [Lane.judged_target, Lane.decreased_target, hT])]

end

end Sys2Proof.Machine
end

section
/-! PROOF. PTRIM (R19, R20, R21, R22, R60): what an accepted trim does to the lanes and the queue, and every answer. -/

namespace Sys2Proof.Machine

/-! ## One lane trimmed -/

section
variable (s : State) (n : LaneId) (bands : List Band)

theorem keepsAllBut_clampSpeed (max : Nat) : KeepsAllBut [.lane n] s (s.clampSpeed n max) := by
  unfold State.clampSpeed
  split
  · exact (keepsAllBut_modLane s n _).trans (keepsAllBut_settle _ n)
  · exact .refl _ s

theorem keepsAllBut_clampTarget (max : Nat) : KeepsAllBut [.lane n, .arbiter] s (s.clampTarget n max) := by
  unfold State.clampTarget
  split
  · split
    · split
      · exact keepsAllBut_removeTarget s n
      · exact (keepsAllBut_modLane s n _).mono (by simp)
    · exact .refl _ s
  · exact .refl _ s

theorem keepsAllBut_clampLead : KeepsAllBut [.lane n] s (s.clampLead n bands) := by
  unfold State.clampLead
  dsimp only
  split
  · split
    · exact keepsAllBut_modLane s n _
    · exact .refl _ s
  · exact .refl _ s

theorem keepsAllBut_trimLane : KeepsAllBut [.lane n, .arbiter] s (s.trimLane bands n) :=
  ((((keepsAllBut_clampSpeed s n _).mono (by simp)).trans (keepsAllBut_clampTarget _ n _)).trans
    ((keepsAllBut_clampLead _ n bands).mono (by simp))).trans ((keepsAllBut_settle _ n).mono (by simp))

theorem clampSpeed_of_le {max : Nat} (h : (s.lane n).g ≤ max) : s.clampSpeed n max = s := if_neg (Nat.not_lt.2 h)

theorem lane_clampSpeed_of_lt {max : Nat} (h : max < (s.lane n).g) :
    ∃ b, (s.clampSpeed n max).lane n = ((s.lane n).decreased max s.cal.values.crawl s.graceMs).judged b := by
  rw [State.clampSpeed, if_pos h, State.decrease, State.lane_settle_same, State.lane_modLane_same]
  exact ⟨_, rfl⟩

/-- The lane that a trim has dealt with: clamped, and judged by its zones as they then stand. -/
theorem lane_trimLane : (s.trimLane bands n).lane n =
    (((s.clampSpeed n (maxSpeed bands)).lane n).targetClamped (maxSpeed bands) |>.leadClamped bands).judged
      ((s.trimLane bands n).zonesInBand n) := by
  rw [State.trimLane, State.zonesInBand_settle, State.lane_settle_same, lane_clampLead, lane_clampTarget]

theorem trimmed_trimLane (hq : (s.lane n).lead ≠ none → (s.lane n).target ≠ none) :
    Trimmed (s.lane n) ((s.trimLane bands n).lane n) bands s.cal.values.crawl s.graceMs := by
  rw [lane_trimLane]
  by_cases h : maxSpeed bands < (s.lane n).g
  · obtain ⟨b, e⟩ := lane_clampSpeed_of_lt s n h
    rw [e]
    exact (clamped ..).lowered h _
  · rw [clampSpeed_of_le s n (Nat.not_lt.1 h)]
    exact (clamped ..).trimmed hq (Nat.not_lt.1 h) ..

end

/-! ## The queue under a trim -/

/-- The queue of the second state is that of the first without the lanes that have lost their target; no lane has
gained one. -/
structure QueueFollows (s t : State) : Prop where
  arbiter : t.arbiter = { s.arbiter with queue := s.arbiter.queue.filter fun n => (t.lane n).target ≠ none }
  lost : ∀ n, (s.lane n).target = none → (t.lane n).target = none

/-- Every queued lane has a target. -/
def Queued (s : State) : Prop := ∀ n ∈ s.arbiter.queue, (s.lane n).target ≠ none

theorem QueueFollows.queued {s t : State} (h : QueueFollows s t) : Queued t := fun n hn => by
  rw [h.arbiter] at hn
  simpa using (List.mem_filter.1 hn).2

theorem QueueFollows.of_same {s t : State} (hs : Queued s) (ha : t.arbiter = s.arbiter)
    (ht : ∀ n, (t.lane n).target = none ↔ (s.lane n).target = none) : QueueFollows s t where
  arbiter := by
    rw [ha, List.filter_eq_self.2 fun n hn => by simpa [ht n] using hs n hn]
  lost n hn := (ht n).2 hn

theorem QueueFollows.trans {s t u : State} (h : QueueFollows s t) (h' : QueueFollows t u) : QueueFollows s u where
  arbiter := by
    have hlost (n : LaneId) : (u.lane n).target ≠ none → (t.lane n).target ≠ none := mt (h'.lost n)
    rw [h'.arbiter, h.arbiter]
    simp only [List.filter_filter]
    congr 2
    funext n
    simpa using hlost n
  lost n hn := h'.lost n (h.lost n hn)

section
variable {s : State} (hs : Queued s) (n : LaneId)
include hs

theorem queueFollows_modLane {f : Lane → Lane} (hf : (f (s.lane n)).target = none ↔ (s.lane n).target = none) :
    QueueFollows s (s.modLane n f) :=
  .of_same hs rfl fun m => by
    by_cases hm : m = n
    · rw [hm, State.lane_modLane_same, hf]
    · rw [State.lane_modLane_other _ _ hm]

theorem queueFollows_settle : QueueFollows s (s.settle n) := queueFollows_modLane hs n (by rw [Lane.judged_target])

theorem queueFollows_removeTarget : QueueFollows s (s.removeTarget n) where
  arbiter := by
    have : s.arbiter.queue.filter (· != n) =
        s.arbiter.queue.filter fun m => ((s.removeTarget n).lane m).target ≠ none :=
      List.filter_congr fun m hm => by
        by_cases e : m = n
        · simp [e, State.lane_removeTarget_same]
        · have := hs m hm
          simp [e, State.lane_removeTarget_other _ e, this]
    rw [← this]
    rfl
  lost m hm := by
    by_cases e : m = n
    · rw [e, State.lane_removeTarget_same]
    · rw [State.lane_removeTarget_other _ e, hm]

theorem queueFollows_clampSpeed (max : Nat) : QueueFollows s (s.clampSpeed n max) := by
  unfold State.clampSpeed
  split
  · have h := queueFollows_modLane hs n (f := fun l => l.decreased max s.cal.values.crawl s.graceMs)
      (by rw [Lane.decreased_target])
    exact h.trans (queueFollows_settle h.queued n)
  · exact .of_same hs rfl fun _ => .rfl

theorem queueFollows_clampTarget (max : Nat) : QueueFollows s (s.clampTarget n max) := by
  unfold State.clampTarget
  split
  next t ht =>
    split
    · split
      · exact queueFollows_removeTarget hs n
      · exact queueFollows_modLane hs n (by simp [ht])
    · exact .of_same hs rfl fun _ => .rfl
  · exact .of_same hs rfl fun _ => .rfl

theorem queueFollows_clampLead (bands : List Band) : QueueFollows s (s.clampLead n bands) := by
  unfold State.clampLead
  dsimp only
  split
  · split
    · exact queueFollows_modLane hs n .rfl
    · exact .of_same hs rfl fun _ => .rfl
  · exact .of_same hs rfl fun _ => .rfl

theorem queueFollows_trimLane (bands : List Band) : QueueFollows s (s.trimLane bands n) := by
  have h1 := queueFollows_clampSpeed hs n (maxSpeed bands)
  have h2 := h1.trans (queueFollows_clampTarget h1.queued n (maxSpeed bands))
  have h3 := h2.trans (queueFollows_clampLead h2.queued n bands)
  exact h3.trans (queueFollows_settle h3.queued n)

end

/-! ## Every lane of the profile -/

/-- What a trim of the profile of a key does to one lane. -/
def State.trimBound (key : Nat) (bands : List Band) (t : State) (n : LaneId) : State :=
  if (t.lane n).key = some key then t.trimLane bands n else t

theorem trimLanes_eq (s : State) (key : Nat) (bands : List Band) :
    s.trimLanes key bands = LaneId.all.foldl (State.trimBound key bands) s := rfl

section
variable {key : Nat} {bands : List Band}

theorem keepsAllBut_trimBound (s : State) (n : LaneId) :
    KeepsAllBut [.lane n, .arbiter] s (s.trimBound key bands n) := by
  unfold State.trimBound
  split
  · exact keepsAllBut_trimLane s n bands
  · exact .refl _ s

theorem queueFollows_trimLanes {s : State} (hs : Queued s) (ns : List LaneId) :
    QueueFollows s (ns.foldl (State.trimBound key bands) s) := by
  induction ns generalizing s with
  | nil => exact .of_same hs rfl fun _ => .rfl
  | cons n ns ih =>
    have h : QueueFollows s (s.trimBound key bands n) := by
      unfold State.trimBound
      split
      · exact queueFollows_trimLane hs n bands
      · exact .of_same hs rfl fun _ => .rfl
    exact h.trans (ih h.queued)

theorem keepsAllBut_trimLanes (s : State) (ns : List LaneId) :
    KeepsAllBut (.arbiter :: ns.map Part.lane) s (ns.foldl (State.trimBound key bands) s) := by
  induction ns generalizing s with
  | nil => exact .refl _ s
  | cons n ns ih =>
    exact ((keepsAllBut_trimBound s n).mono (by simp)).trans ((ih _).mono (by simp))

/-- A lane of another key is left alone. -/
theorem lane_trimLanes_other {s : State} {n : LaneId} (hk : (s.lane n).key ≠ some key) (ns : List LaneId) :
    (ns.foldl (State.trimBound key bands) s).lane n = s.lane n := by
  induction ns generalizing s with
  | nil => rfl
  | cons m ns ih =>
    have h : (s.trimBound key bands m).lane n = s.lane n := by
      by_cases e : n = m
      · subst e
        rw [State.trimBound, if_neg hk]
      · exact (keepsAllBut_trimBound s m).1 (.lane n) (by simp [e])
    rw [List.foldl_cons, ih (h ▸ hk), h]

/-- Each lane of the key is trimmed once, and judged by its zones as they stand in the end. -/
theorem trimmed_trimLanes {s : State} {n : LaneId} (hk : (s.lane n).key = some key)
    (hq : (s.lane n).lead ≠ none → (s.lane n).target ≠ none) {ns : List LaneId} (hns : ns.Nodup) (hn : n ∈ ns) :
    Trimmed (s.lane n) ((ns.foldl (State.trimBound key bands) s).lane n) bands s.cal.values.crawl s.graceMs ∧
      ((ns.foldl (State.trimBound key bands) s).lane n).inBand =
        (ns.foldl (State.trimBound key bands) s).zonesInBand n := by
  induction ns generalizing s with
  | nil => simp at hn
  | cons m ns ih =>
    obtain ⟨hm, hns⟩ := List.nodup_cons.1 hns
    rw [List.foldl_cons]
    by_cases e : n = m
    · subst e
      have rest := keepsAllBut_trimLanes (key := key) (bands := bands) (s.trimBound key bands n) ns
      have lane := rest.1 (.lane n) (by simpa using hm)
      have zones : _ = (s.trimBound key bands n).zonesInBand n := State.zonesInBand_congr (congrArg Lane.key lane :)
        (fun bs => congrArg (·.heatBand bs) lane) (rest.1 .profiles (by simp)) (rest.1 .readings (by simp))
        (rest.1 .cal (by simp))
      have now : s.trimBound key bands n = s.trimLane bands n := if_pos hk
      rw [zones, show _ = _ from lane, now]
      exact ⟨trimmed_trimLane s n bands hq, by rw [lane_trimLane, Lane.judged_inBand]⟩
    · have before := keepsAllBut_trimBound (key := key) (bands := bands) s m
      have lane : (s.trimBound key bands m).lane n = s.lane n := before.1 (.lane n) (by simp [e])
      have cal : (s.trimBound key bands m).cal = s.cal := before.1 .cal (by simp)
      have := ih (s := s.trimBound key bands m) (by rw [lane, hk]) (by rwa [lane]) hns
        ((List.mem_cons.1 hn).resolve_left e)
      rwa [lane, State.graceMs, cal] at this

end

/-- What a trim of a profile does to the lanes and to the queue (R60). -/
structure LanesTrimmed (s t : State) (key : Nat) (bands : List Band) : Prop where
  keeps : KeepsAllBut (.arbiter :: everyLane) s t
  unbound : ∀ n, (s.lane n).key ≠ some key → t.lane n = s.lane n
  bound : ∀ n, (s.lane n).key = some key →
    Trimmed (s.lane n) (t.lane n) bands s.cal.values.crawl s.graceMs ∧ (t.lane n).inBand = t.zonesInBand n
  queue : QueueFollows s t

theorem lanesTrimmed {s : State} (hs : Queued s) (hl : ∀ n, (s.lane n).lead ≠ none → (s.lane n).target ≠ none)
    (key : Nat) (bands : List Band) : LanesTrimmed s (s.trimLanes key bands) key bands := by
  rw [trimLanes_eq]
  exact
    { keeps := keepsAllBut_trimLanes s LaneId.all
      unbound := fun _ hn => lane_trimLanes_other hn LaneId.all
      bound := fun n hn => trimmed_trimLanes hn (hl n) (by decide) (by cases n <;> decide)
      queue := queueFollows_trimLanes hs LaneId.all }

end Sys2Proof.Machine
end

section
/-! PROOF. PTRIM (R19): its answers, and the record and the lanes that it leaves. -/

namespace Sys2Proof.Machine

/-! ## What its owner answers -/

section
variable {s : State} {k1 k0 present expected count : Byte} {rest : List Byte} {items : List TrimItem}

theorem takePtrim_count (hc : s.commit = none) (h : count = 0 ∨ 8 < count.toNat) :
    takePtrim (k1 :: k0 :: present :: expected :: count :: rest) s = (s, .badField 0) := by
  have hn : within 1 8 count.toNat = false := within_eq_false.2 fun hin => by
    rcases h with rfl | h
    · exact absurd hin.1 (by decide)
    · omega
  simp [takePtrim, State.committing, hc, readPtrim, hn]

variable (hc : s.commit = none) (hn : 1 ≤ count.toNat ∧ count.toNat ≤ 8)
include hc hn

theorem takePtrim_length (hr : readItems count.toNat rest = none) :
    takePtrim (k1 :: k0 :: present :: expected :: count :: rest) s = (s, .badLength) := by
  simp [takePtrim, State.committing, hc, readPtrim, within_eq_true.2 hn, hr]

/-- The header of a PTRIM (R156): an expected revision counts where its presence byte is not 0. -/
theorem takePtrim_items (hr : readItems count.toNat rest = some items) :
    takePtrim (k1 :: k0 :: present :: expected :: count :: rest) s =
      s.trimProfile
        ⟨k1.toNat * 256 + k0.toNat, if present = 0 then none else some expected, count.toNat, rest⟩ items := by
  simp [takePtrim, State.committing, hc, readPtrim, within_eq_true.2 hn, hr, read2]

end

section
variable {s : State} {key n : Nat} {expected : Option Byte} {bytes : List Byte} {items : List TrimItem}

theorem trimProfile_absent (hp : findProfile s.profiles key = none) :
    s.trimProfile ⟨key, expected, n, bytes⟩ items = (s, .notFound) := by
  simp [State.trimProfile, hp]

variable {p : Profile} (hp : findProfile s.profiles key = some p)
include hp

theorem trimProfile_stale {revision : Byte} (he : expected = some revision) (hne : revision ≠ p.revision) :
    s.trimProfile ⟨key, expected, n, bytes⟩ items = (s, .staleRevision p.revision) := by
  simp [State.trimProfile, hp, he, hne]

variable (he : expected = none ∨ expected = some p.revision)
include he

theorem trimProfile_refused {k : Nat} (ht : p.toProfileFields.trimmed items = .error k) :
    s.trimProfile ⟨key, expected, n, bytes⟩ items = (s, .badField k) := by
  rcases he with he | he <;> simp [State.trimProfile, hp, he, ht]

theorem trimProfile_accepted {f : ProfileFields} (ht : p.toProfileFields.trimmed items = .ok f) :
    s.trimProfile ⟨key, expected, n, bytes⟩ items = s.acceptTrim p f := by
  rcases he with he | he <;> simp [State.trimProfile, hp, he, ht]

end

theorem expected_agrees {present expected revision : Byte} (h : present = 0 ∨ expected = revision) :
    (if present = 0 then none else some expected) = none ∨
      (if present = 0 then none else some expected) = some revision := by
  by_cases h0 : present = 0
  · exact .inl (if_pos h0)
  · exact .inr ((if_neg h0).trans (congrArg some (h.resolve_left h0)))

/-! ## The trim accepted -/

/-- The table with the trimmed record in it. -/
def State.trimmedTable (s : State) (p : Profile) (f : ProfileFields) : State :=
  { s.setMark p.slot with
    profiles := replaceProfile s.profiles { p with toProfileFields := f, revision := p.revision + 1 } }

theorem acceptTrim_eq (s : State) (p : Profile) (f : ProfileFields) :
    s.acceptTrim p f = (((s.trimmedTable p f).trimLanes p.key f.bands).reform,
      .done ((p.revision + 1) :: be2 (maxSpeed f.bands))) := rfl

theorem keepsAllBut_trimmedTable (s : State) (p : Profile) (f : ProfileFields) :
    KeepsAllBut [.profiles, .marks] s (s.trimmedTable p f) :=
  ⟨fun q hq => by cases q <;> first | rfl | simp at hq, rfl⟩

/-- A body whose items are spelled out fits its frame. -/
theorem ptrimBody_length {items : List (List Byte)} (h : ∀ i ∈ items, Spelled i) (hn : items.length ≤ 8)
    (k1 k0 present expected count : Byte) :
    (k1 :: k0 :: present :: expected :: count :: items.flatten).length ≤ 96 := by
  have := flatten_length_le h
  simp only [List.length_cons]
  omega

/-- What an accepted trim makes of the state (R22, R60). -/
structure TrimDone (s t : State) (p : Profile) (f : ProfileFields) : Prop where
  port : t.port = answering s.port 0x04 (.done ((p.revision + 1) :: be2 (maxSpeed f.bands)))
  same : findProfile t.profiles p.key = some { p with toProfileFields := f, revision := p.revision + 1 }
  other : ∀ k, k ≠ p.key → findProfile t.profiles k = findProfile s.profiles k
  marks : ∀ i < 48, t.marks.getLsbD i = (i == p.slot || s.marks.getLsbD i)
  unbound : ∀ n, (s.lane n).key ≠ some p.key → t.lane n = s.lane n
  bound : ∀ n, (s.lane n).key = some p.key →
    Trimmed (s.lane n) (t.lane n) f.bands s.cal.values.crawl s.graceMs ∧ (t.lane n).inBand = t.zonesInBand n
  queue : QueueFollows s t
  formed : FormedFrom s t
  keeps : KeepsAllBut (everyLane ++ [.profiles, .marks, .arbiter, .load, .lines, .port]) s t

theorem keepsAllBut_answer (t : State) (code : Byte) (r : Reply) :
    KeepsAllBut [.load, .lines, .port] t (t.reform.prepareAnswer code r) :=
  ((keepsAllBut_reform t).mono (by simp)).trans ((keepsAllBut_prepareAnswer _ code r).mono (by simp))

theorem QueueLaw.lead_target {s : State} (l : QueueLaw s) (n : LaneId) (h : (s.lane n).lead ≠ none) :
    (s.lane n).target ≠ none := by
  obtain ⟨d, hd⟩ := Option.ne_none_iff_exists'.1 h
  exact (l.target n).1 (l.lead n d hd).1

/-- The table and the mark, the lanes, and the answer. -/
theorem trimDone {s v : State} {p : Profile} {f : ProfileFields} (hp : (findProfile s.profiles p.key).isSome)
    (hk : f.key = p.key) (l : LanesTrimmed (s.taking.trimmedTable p f) v p.key f.bands) :
    TrimDone s (v.reform.prepareAnswer 0x04 (.done ((p.revision + 1) :: be2 (maxSpeed f.bands)))) p f := by
  set q : Profile := { p with toProfileFields := f, revision := p.revision + 1 } with hq
  set r : Reply := .done ((p.revision + 1) :: be2 (maxSpeed f.bands))
  have hqk : q.key = p.key := hk
  have answer := keepsAllBut_answer v 0x04 r
  have profiles : (v.reform.prepareAnswer 0x04 r).profiles = replaceProfile s.profiles q :=
    (answer.1 .profiles (by simp)).trans (l.keeps.1 .profiles (by simp [everyLane]))
  have marks : (v.reform.prepareAnswer 0x04 r).marks = s.marks ||| slotBit p.slot :=
    (answer.1 .marks (by simp)).trans (l.keeps.1 .marks (by simp [everyLane]))
  exact
    { port := prepareAnswer_port (t := v.reform) (l.keeps.1 .port (by simp [everyLane])) 0x04 r
      same := by rw [profiles, ← hqk]; exact findProfile_replaceProfile_same (hqk ▸ hp)
      other := fun k hne => by rw [profiles]; exact findProfile_replaceProfile_other _ (hqk ▸ hne)
      marks := fun i hi => by rw [marks]; exact getLsbD_setMark _ _ hi
      unbound := l.unbound
      bound := l.bound
      queue := ⟨(answer.1 .arbiter (by simp)).trans l.queue.arbiter, l.queue.lost⟩
      formed := formedFrom_answered (s := s) (l.keeps.1 .load (by simp [everyLane])) 0x04 r
      keeps := keepsAllBut_answered (((keepsAllBut_trimmedTable s.taking p f).mono (by simp)).trans
        (l.keeps.mono (by simp [everyLane]))) (by simp) (by simp) (by simp) 0x04 r }

/-! ## The obligation -/

/-- The bytes of one lane of the profile in the words of the statement. -/
theorem Trimmed.eq_with {l m : Lane} {bands : List Band} {crawl graceMs : Nat} (t : Trimmed l m bands crawl graceMs)
    {z : Option Bool} (hz : m.inBand = z) :
    m = { l with
      g := m.g, state := m.state, target := m.target
      graceMs := if maxSpeed bands < l.g then graceMs else l.graceMs
      lead := m.lead, leadMs := m.leadMs
      hotWeb := if l.state = .running ∧ m.state ≠ .running then 0 else l.hotWeb
      inBand := z } := by
  rw [← t.graceMs, ← t.hotWeb, ← hz]
  exact t.steady.eq_with

section
variable {s : State} {k1 k0 present expected : Byte} (h : ListeningAt s) (hc : s.commit = none)

theorem byteOf_count {n : Nat} (h : n ≤ 8) : (byteOf n).toNat = n := byteOf_toNat_of_lt (by omega)

include h hc

/-- A PTRIM whose items are read is dealt with by the record of its key. -/
theorem exec_ptrim {n : Nat} (hn : 1 ≤ n ∧ n ≤ 8) {bytes : List Byte} {items : List TrimItem}
    (hr : readItems n bytes = some items)
    (hlen : (k1 :: k0 :: present :: expected :: byteOf n :: bytes).length ≤ 96) {t : State} {r : Reply}
    (ht : s.taking.trimProfile
      ⟨k1.toNat * 256 + k0.toNat, if present = 0 then none else some expected, (byteOf n).toNat, bytes⟩ items =
        (t, r)) :
    exec (.ptrim (k1 :: k0 :: present :: expected :: byteOf n :: bytes)) s = .next (t.prepareAnswer 0x04 r) :=
  have hb : (byteOf n).toNat = n := byteOf_count hn.2
  h.exec_request rfl rfl hlen ((takePtrim_items (s := s.taking) hc (hb.symm ▸ hn) (hb.symm ▸ hr)).trans ht)

variable {p : Profile} (hp : findProfile s.profiles (k1.toNat * 256 + k0.toNat) = some p)
include hp

/-- A PTRIM that expects another revision (R19). -/
theorem exec_ptrim_stale {items : List (List Byte)} (hs : ∀ i ∈ items, Spelled i)
    (hn : 1 ≤ items.length ∧ items.length ≤ 8) (hpres : present ≠ 0) (hexp : expected ≠ p.revision) :
    exec (.ptrim (k1 :: k0 :: present :: expected :: byteOf items.length :: items.flatten)) s =
      .next (onlyAnswered s 0x04 (.refused 8 p.revision)) :=
  exec_ptrim h hc hn (readItems_flatten hs) (ptrimBody_length hs hn.2 ..)
    (trimProfile_stale (s := s.taking) hp (if_neg hpres) hexp)

variable (he : present = 0 ∨ expected = p.revision)
include he

/-- A PTRIM whose copy is refused at an item (R20, R21). -/
theorem exec_ptrim_refused {n : Nat} (hn : 1 ≤ n ∧ n ≤ 8) {bytes : List Byte} {items : List TrimItem}
    (hr : readItems n bytes = some items)
    (hlen : (k1 :: k0 :: present :: expected :: byteOf n :: bytes).length ≤ 96) {k : Nat}
    (ht : p.toProfileFields.trimmed items = .error k) :
    exec (.ptrim (k1 :: k0 :: present :: expected :: byteOf n :: bytes)) s =
      .next (onlyAnswered s 0x04 (.refused 3 (byteOf k))) :=
  exec_ptrim h hc hn hr hlen (trimProfile_refused (s := s.taking) hp (expected_agrees he) ht)

variable (hv : ValidProfile p) {items : List (List Byte)} {f : ProfileFields} (hi : TrimsAll p.toProfileFields items f)
include hv hi

/-- An accepted trim (R22). -/
theorem exec_ptrim_accepted (hq : QueueLaw s) (hn : 1 ≤ items.length ∧ items.length ≤ 8) (hne : f.couples ≠ [])
    (hb : f.bands.Pairwise fun a b => a.bound < b.bound) :
    ∃ t, exec (.ptrim (k1 :: k0 :: present :: expected :: byteOf items.length :: items.flatten)) s = .next t ∧
      TrimDone s t p f := by
  have htrim : p.toProfileFields.trimmed (items.map itemOf) = .ok f := by
    rw [hi.trimmed hv.copyLaw, if_neg hne, boundsIncrease_eq_true.2 hb]
    rfl
  have found : (findProfile s.profiles p.key).isSome := by rw [findProfile_self hp]; rfl
  exact ⟨_, exec_ptrim h hc hn (readItems_flatten hi.spelled) (ptrimBody_length hi.spelled hn.2 ..)
      ((trimProfile_accepted (s := s.taking) hp (expected_agrees he) htrim).trans (acceptTrim_eq ..)),
    trimDone found (trimmed_key htrim)
      (lanesTrimmed (s := s.taking.trimmedTable p f) (fun n => (hq.target n).1) hq.lead_target ..)⟩

end

/-- Settles O30: a body is read into the items that its bytes spell, and these are applied, or refused, as the statement
says of the bytes. -/
theorem ptrimTrims : Obligations.PtrimTrims := by
  refine ⟨?_, ?_, ?_⟩
  · rintro s k1 k0 present expected h - hq hc p hp hv items f hi h1 h8 body rfl
    have hs := hi.spelled
    have refused {k : Nat} (he : present = 0 ∨ expected = p.revision) :=
      exec_ptrim_refused (k := k) h hc hp he ⟨h1, h8⟩ (readItems_flatten hs) (ptrimBody_length hs h8 ..)
    refine ⟨fun he => ⟨fun hne hb => ?_, fun hnil k hk => ?_, fun hne hb k hk => ?_⟩,
      exec_ptrim_stale h hc hp hs ⟨h1, h8⟩⟩
    · obtain ⟨t, next, d⟩ := exec_ptrim_accepted h hc hp he hv hi hq ⟨h1, h8⟩ hne hb
      refine ⟨t, next, d.port, d.same, d.other, d.marks, d.unbound, fun n hn => ?_, d.queue.arbiter, d.formed, d.keeps⟩
      obtain ⟨T, z⟩ := d.bound n hn
      exact ⟨T.g, T.eq_with z, T.running, T.moving, T.still, T.leadGone, T.leadMs, T.leadKept, T.target, T.noTarget⟩
    · refine refused he ?_
      rw [hi.trimmed hv.copyLaw, if_pos hnil, hk.lastPosition fun i hm => (hs i hm).isRemove]
    · have hfalse : boundsIncrease f.bands = false := by rwa [← Bool.not_eq_true, boundsIncrease_eq_true]
      refine refused he ?_
      rw [hi.trimmed hv.copyLaw, if_neg hne, hfalse, hk.lastPosition fun i hm => (hs i hm).isBound]
      rfl
  · intro s k1 k0 present expected h hc p hp hv he items f hi
    have hs := hi.spelled
    refine ⟨fun bad rest hbad hno hrest hlen => ?_, fun kind rest more hkind hlen hmore hbytes => ?_⟩
    · have hall : ∀ i ∈ items ++ bad :: rest, Spelled i := fun i hm => by
        rcases List.mem_append.1 hm with hm | hm
        · exact hs i hm
        · exact (List.mem_cons.1 hm).elim (· ▸ hbad.spelled) fun hm => (hrest i hm).spelled
      have hcount : items.length + 1 + rest.length = (items ++ bad :: rest).length := by
        simp only [List.length_append, List.length_cons]; omega
      have hnone : f.applyItem (itemOf bad) = none :=
        Option.eq_none_iff_forall_ne_some.2 fun g hg => hno g (hbad.spelled.trims (hi.copyLaw hv.copyLaw) hg)
      rw [hcount] at hlen ⊢
      refine exec_ptrim_refused h hc hp he ⟨by omega, hlen⟩ (readItems_flatten hall) (ptrimBody_length hall hlen ..) ?_
      rw [List.map_append, List.map_cons]
      exact hi.trimmed_bad hv.copyLaw hnone _
    · have hr : readItems (items.length + 1 + more) (items.flatten ++ kind :: rest) =
          some (items.map itemOf ++ [.unknown]) := by
        rw [Nat.add_assoc, Nat.add_comm 1, readItems_append hs, readItems_unknown hkind hmore]
        rfl
      refine exec_ptrim_refused h hc hp he ⟨by omega, hlen⟩ hr ?_ (hi.trimmed_bad hv.copyLaw rfl _)
      simp only [List.length_cons, List.length_append]
      omega
  · intro s k1 k0 present expected count items h hc hshape h8
    have hs : ∀ i ∈ items, Spelled i := fun i hm => (hshape i hm).spelled
    have hlen := ptrimBody_length hs h8 k1 k0 present expected count
    refine ⟨fun hcount => ?_, fun h1 hc8 hne => ?_, fun h1 heq hp => ?_⟩
    · exact h.exec_onlyAnswered rfl rfl hlen (takePtrim_count (s := s.taking) hc hcount)
    · exact h.exec_onlyAnswered rfl rfl hlen
        (takePtrim_length (s := s.taking) hc ⟨h1, hc8⟩ (readItems_disagrees hs hne))
    · refine h.exec_onlyAnswered rfl rfl hlen ?_
      rw [takePtrim_items (s := s.taking) hc ⟨h1, by omega⟩ (heq ▸ readItems_flatten hs)]
      exact trimProfile_absent (s := s.taking) hp

end Sys2Proof.Machine
end

section
/-! PROOF. A property that the port's record does not touch and that every request keeps is kept by every command of the
line: by the characters, the frames and the answers (R128 to R134). -/

namespace Sys2Proof.Machine

/-! ## Changes of the port alone -/

/-- `t` is `s` with another port. -/
def PortOnly (s t : State) : Prop := t = { s with port := t.port }

theorem PortOnly.refl (s : State) : PortOnly s s := rfl

theorem PortOnly.trans {s t u : State} (h : PortOnly s t) (h' : PortOnly t u) : PortOnly s u := by
  unfold PortOnly at h h' ⊢
  rw [h', h]

theorem PortOnly.ite {s t u : State} {c : Prop} [Decidable c] (ht : PortOnly s t) (hu : PortOnly s u) :
    PortOnly s (if c then t else u) := by
  split
  · exact ht
  · exact hu

theorem portOnly_collide (s : State) : PortOnly s s.collide := rfl

theorem portOnly_busyLine (s : State) : PortOnly s s.busyLine := .ite (portOnly_collide s) (.refl s)

theorem portOnly_addCharacter (s : State) (rx : List Byte) (c : LineChar) : PortOnly s (s.addCharacter rx c) :=
  .ite rfl (.ite rfl (.ite (.ite rfl rfl) rfl))

theorem portOnly_hearInHunt (s : State) (gap : Bool) (c : LineChar) : PortOnly s (s.hearInHunt gap c) :=
  .ite (portOnly_addCharacter ..) (.refl s)

theorem portOnly_hearOutside (s : State) (gap : Bool) (c : LineChar) : PortOnly s (s.hearOutside gap c) :=
  .ite (portOnly_busyLine s)
    (.ite ((portOnly_collide s).trans (portOnly_hearInHunt ..)) (portOnly_hearInHunt ..))

/-! ## Properties of the other records -/

/-- A property that does not speak of the port and that every request keeps. -/
structure LineInvariant (P : State → Prop) : Prop where
  port : ∀ {s} (p : Port), P s → P { s with port := p }
  owner : ∀ {code take s} (body : List Byte), ownerOf code = some take → P s → P (take body s).1

/-- The commands that are neither of the line nor of a request. -/
def offLine : Instr → Bool
  | .stationReset _ | .powerOn _ _ | .powerLoss | .evaluation | .encoderWindow _ | .flowWindow | .purgeFailed
  | .cooldownTimeout | .residualHoldExpiry _ | .decelGraceExpiry _ | .bandLeadTimeout _ | .readingStale _
  | .breakInputChange _ _ | .confirmedBreak _ | .cadencePhaseEnd | .masterSilent | .slotWriteDone _
  | .encoderEdge _ _ | .flowPulse _ => true
  | _ => false

namespace LineInvariant

variable {P : State → Prop} (hP : LineInvariant P) {s : State}
include hP

theorem kept {t : State} (hs : P s) (h : PortOnly s t) : P t := h ▸ hP.port _ hs

theorem answerRequest (hs : P s) (code : Byte) (body : List Byte) : P (s.answerRequest code body) := by
  unfold State.answerRequest
  split
  next take ht => exact hP.port _ (hP.owner body ht hs)
  next => exact hP.port _ hs

theorem takeBroadcast (hs : P s) (code : Byte) (body : List Byte) : P (s.takeBroadcast code body) := by
  have discarded : P (s.discard .broadcast) := hP.port _ hs
  unfold State.takeBroadcast
  split
  · split
    next take ht =>
      dsimp only
      split
      · exact hP.port _ (hP.owner body ht hs)
      · exact discarded
    next => exact discarded
  · exact discarded

theorem takeFrame (hs : P s) (dest : FrameTo) (code : Byte) (body : List Byte) : P (s.takeFrame dest code body) := by
  have idle : P (s.setIdle (gapMs s.port.rate)) := hP.port _ hs
  unfold State.takeFrame
  cases dest with
  | other => exact hP.port _ idle
  | broadcast => exact hP.takeBroadcast idle code body
  | station =>
    dsimp only
    split
    · exact hP.port _ idle
    · exact hP.answerRequest idle code body

theorem takeHeld (hs : P s) : P s.takeHeld := by
  unfold State.takeHeld
  split
  · exact hP.takeFrame hs ..
  · exact hP.port _ hs

theorem hear (hs : P s) (c : LineChar) : P (s.hear c) := by
  have idle : P (s.setIdle 0) := hP.port _ hs
  unfold State.hear
  split
  · exact hP.kept hs (portOnly_busyLine _)
  · dsimp only
    split
    · exact hP.kept idle (portOnly_hearOutside ..)
    · exact hP.kept idle (portOnly_hearOutside ..)
    · split
      · exact hP.kept (hP.port _ idle) (portOnly_hearOutside ..)
      · exact hP.kept idle (portOnly_addCharacter ..)
    · split
      · exact hP.port _ (hP.kept (hP.takeHeld hs) (portOnly_hearOutside ..))
      · exact hP.port _ idle

theorem hearAll (hs : P s) (cs : List LineChar) : P (cs.foldl State.hear s) := by
  induction cs generalizing s with
  | nil => exact hs
  | cons c cs ih => exact ih (hP.hear hs c)

theorem hearWithin (hs : P s) (c : LineChar) : P (s.hearWithin c) := by
  unfold State.hearWithin
  split
  · exact hP.kept hs (portOnly_busyLine _)
  · exact hP.hear (hP.port _ hs) _

theorem lineIdle (hs : P s) : P s.lineIdle := by
  unfold State.lineIdle
  split
  · exact hs
  · split
    · exact hP.port _ (hP.port _ hs)
    · exact hP.takeHeld hs
    · exact hP.port _ hs

theorem frameArrives (hs : P s) (dest : FrameTo) (code : Byte) (body : List Byte) :
    P (s.frameArrives dest code body) := by
  have idle := hP.lineIdle hs
  have heard : P (if s.lineIdle.port.state = .answer then s.lineIdle.collide else s.lineIdle) :=
    hP.kept idle (.ite (portOnly_collide _) (.refl _))
  unfold State.frameArrives
  dsimp only
  split
  · exact hP.kept idle (portOnly_busyLine _)
  · split
    · exact hP.port _ heard
    · exact hP.takeFrame heard ..

/-- Every command of the line keeps the property. -/
theorem exec {i : Instr} {t : State} (hs : P s) (hi : offLine i = false) (h : Machine.exec i s = .next t) : P t := by
  have next {u : State} (hu : P u) (h : Host.Outcome.next u = (.next t : Host.Outcome State Fault Refusal)) : P t := by
    cases h; exact hu
  have powered {u : State} (h : Host.Outcome.next (if s.powered then u else s) =
      (.next t : Host.Outcome State Fault Refusal)) (hu : PortOnly s u) : P t :=
    next (hP.kept hs (.ite hu (.refl s))) h
  cases i
  case frameDiscard => exact next (hP.hearAll hs _) h
  case shortFrame => exact next (hP.lineIdle (hP.hearAll hs _)) h
  case overlongFrame => exact next (hP.hearWithin (hP.hearAll hs _) _) h
  case answerBegin => exact powered h (.ite rfl (.refl s))
  case answerEnd => exact powered h (.ite rfl (.refl s))
  case collision event =>
    refine powered h (.ite ?_ (.refl s))
    cases event with
    | readback => exact .ite (portOnly_collide s) (.refl s)
    | busyLine => exact .ite (.refl s) ((portOnly_collide s).trans (portOnly_hearOutside ..))
  case linkFree => exact powered h rfl
  case linkFreeRelease => exact powered h (.ite rfl (.refl s))
  case stationReset | powerOn | powerLoss | evaluation | encoderWindow | flowWindow | purgeFailed | cooldownTimeout
    | residualHoldExpiry | decelGraceExpiry | bandLeadTimeout | readingStale | breakInputChange | confirmedBreak
    | cadencePhaseEnd | masterSilent | slotWriteDone | encoderEdge | flowPulse => cases hi
  all_goals exact next (hP.frameArrives hs ..) h

end LineInvariant

end Sys2Proof.Machine
end

section
/-! PROOF. An evaluation as a chain of a few operations (R69 to R78): a relation between states that each of these
operations keeps is kept by the stages of an evaluation and by the whole. -/

namespace Sys2Proof.Machine

/-! ## The service stage -/

/-- A preorder that holds across the operations by which the service stage acts on lanes of a kind (R76, R77, R78). -/
structure ServiceRelation (ok : LaneId → Prop) (R : State → State → Prop) : Prop where
  refl : ∀ s, R s s
  trans : ∀ {s t u}, R s t → R t u → R s u
  settle : ∀ s {n}, ok n → R s (s.settle n)
  raise : ∀ s {n g}, ok n → (s.lane n).g < g → R s (s.raise n g)
  removeTarget : ∀ s {n}, ok n → R s (s.removeTarget n)
  reached : ∀ s {n}, ok n → R s (s.latchLane .grantReached n)
  lead : ∀ s {n} d, ok n → R s (s.modLane n fun l => { l with lead := some d, leadMs := 0 })

section
variable {ok : LaneId → Prop} {R : State → State → Prop} (hR : ServiceRelation ok R)
include hR

theorem ServiceRelation.serveLane (s : State) (capacity : Nat) {n : LaneId} (hn : ok n) :
    R s (s.serveLane capacity n) := by
  unfold State.serveLane
  split
  next target fit _ _ =>
    dsimp only
    split
    next hv =>
      unfold State.raiseToward
      dsimp only
      split
      · exact hR.trans (hR.raise s hn hv)
          (hR.trans (hR.removeTarget _ hn) (hR.trans (hR.settle _ hn) (hR.reached _ hn)))
      · exact hR.raise s hn hv
    next =>
      split
      · exact hR.trans (hR.lead s _ hn) (hR.settle _ hn)
      · exact hR.refl s
  next => exact hR.refl s

/-- The lanes lowered in the evaluation are passed over (R76). -/
theorem ServiceRelation.serviceStage (capacity : Nat) (r : State × List LaneId) (hok : ∀ n, n ∉ r.2 → ok n) :
    R r.1 (State.serviceStage capacity r) := by
  have serve (ns : List LaneId) (s : State) : R s (State.serve capacity r.2 ns s) := by
    induction ns generalizing s with
    | nil => exact hR.refl s
    | cons n ns ih =>
      unfold State.serve
      refine hR.trans ?_ (ih _)
      split
      · exact hR.refl s
      next h =>
        refine hR.serveLane s capacity (hok n fun hn => h ?_)
        rw [List.contains_iff_mem.2 hn, Bool.or_true]
  unfold State.serviceStage
  split
  · exact serve _ _
  · exact hR.refl _

end

/-! ## The hot-web stage -/

/-- A preorder that holds across the operations by which the hot-web stage acts on lanes of a kind (R75). -/
structure HotWebRelation (ok : LaneId → Prop) (R : State → State → Prop) : Prop where
  refl : ∀ s, R s s
  trans : ∀ {s t u}, R s t → R t u → R s u
  count : ∀ s {n} k, ok n → R s (s.modLane n fun l => { l with hotWeb := k })
  decrease : ∀ s {n} g, ok n → R s (s.decrease n g)
  hot : ∀ s {n}, ok n → R s (s.latchLane .hotWeb n)

section
variable {ok : LaneId → Prop} {R : State → State → Prop} (hR : HotWebRelation ok R)
include hR

theorem HotWebRelation.hotWebStep (r : State × List LaneId) {n : LaneId} (hn : ok n) :
    R r.1 (State.hotWebStep r n).1 := by
  unfold State.hotWebStep
  dsimp only
  split
  · split
    · exact hR.trans (hR.count _ 0 hn) (hR.trans (hR.decrease _ _ hn) (hR.hot _ hn))
    · exact hR.count _ _ hn
  · exact hR.refl _

theorem HotWebRelation.hotWebSteps (r : State × List LaneId) (ns : List LaneId) (hns : ∀ n ∈ ns, ok n) :
    R r.1 (ns.foldl State.hotWebStep r).1 := by
  induction ns generalizing r with
  | nil => exact hR.refl _
  | cons n ns ih =>
    exact hR.trans (hR.hotWebStep r (hns n List.mem_cons_self)) (ih _ fun m hm => hns m (List.mem_cons_of_mem _ hm))

end

/-! ## The evaluation -/

/-- A preorder that holds across every operation of an evaluation (R69 to R78). -/
structure EvaluationRelation (R : State → State → Prop) : Prop where
  service : ServiceRelation (fun _ => True) R
  hotWeb : HotWebRelation (fun _ => True) R
  withdrawn : ∀ s n, R s (s.latchLane .withdrawn n)
  excess : ∀ s, R s { s with arbiter := { s.arbiter with excess := 0 } }
  requestSafeHold : ∀ s, R s (s.requestSafeHold .overload)

section
variable {R : State → State → Prop} (hR : EvaluationRelation R)
include hR

theorem EvaluationRelation.withdrawTo (s : State) (n : LaneId) (g : Nat) : R s (s.withdrawTo n g) :=
  hR.service.trans (hR.hotWeb.decrease s g trivial) (hR.withdrawn _ n)

theorem EvaluationRelation.withdraw (capacity : Nat) (ns : List LaneId) (s : State) (lowered : List LaneId) :
    R s (State.withdraw capacity ns (s, lowered)).1 := by
  induction ns generalizing s lowered with
  | nil => exact hR.service.refl s
  | cons n ns ih =>
    unfold State.withdraw
    dsimp only
    split
    · exact hR.service.refl s
    · split
      · exact hR.service.trans (hR.withdrawTo ..) (ih ..)
      · exact ih ..

theorem EvaluationRelation.overload (s : State) : R s s.overload := by
  unfold State.overload
  refine hR.service.trans ?_ (hR.requestSafeHold _)
  induction LaneId.all generalizing s with
  | nil => exact hR.service.refl s
  | cons n ns ih =>
    rw [List.foldl_cons]
    refine hR.service.trans ?_ (ih _)
    split
    · exact hR.withdrawTo ..
    · exact hR.service.refl s

theorem EvaluationRelation.analyzerStep (r : State × List LaneId) : R r.1 (State.analyzerStep r).1 := by
  unfold State.analyzerStep
  dsimp only
  split
  · split
    · exact hR.service.trans (hR.excess _) (hR.withdrawTo ..)
    · exact hR.excess _
  · exact hR.service.refl _

/-- An evaluation, from the estimate on. -/
theorem EvaluationRelation.evaluate (s : State) : R s.holdEstimate s.evaluate := by
  have withdrawn := hR.withdraw s.holdEstimate.capacity s.holdEstimate.runningByStamp s.holdEstimate []
  unfold State.evaluate
  dsimp only
  split
  · exact hR.service.trans withdrawn (hR.overload _)
  · exact hR.service.trans withdrawn (hR.service.trans (hR.analyzerStep _)
      (hR.service.trans (hR.hotWeb.hotWebSteps _ LaneId.all fun _ _ => trivial)
        (hR.service.serviceStage _ _ fun _ _ => trivial)))

end

end Sys2Proof.Machine
end

section
/-! PROOF. What the active limit (R29) and the horn's continuous condition (R120) are formed from, and which operations
leave it: nearly every one does. A reading taken, a reading gone stale and a calibration form the limit afresh. -/

namespace Sys2Proof.Machine

/-! ## Causes by their bits -/

/-- The cause of a bit of the cause set (R162). -/
def causeAt : Nat → Cause
  | 0 => .webBreak | 1 => .safeHold | 2 => .flowLost | 3 => .analyzerHigh | 4 => .purgeFailed | 5 => .masterSilent
  | 6 => .grantReached | 7 => .withdrawn | 8 => .bandLeadTimeout | 9 => .hotWeb | 10 => .overspeed
  | 11 => .zoneOvertemp | 12 => .readingStale | 13 => .profileRetired | 14 => .storeDone | 15 => .storeFault
  | 16 => .storeSlotLost | _ => .cooldownDone

theorem causeAt_index (c : Cause) : causeAt c.index = c := by cases c <;> rfl

theorem Cause.index_lt (c : Cause) : c.index < 18 := by cases c <;> decide

theorem index_causeAt {i : Nat} (_ : i < 18) : (causeAt i).index = i := by interval_cases i <;> rfl

theorem Cause.index_inj {c d : Cause} : c.index = d.index ↔ c = d :=
  ⟨fun h => (causeAt_index c).symm.trans ((congrArg causeAt h).trans (causeAt_index d)), congrArg Cause.index⟩

theorem Cause.getLsbD_bit (c : Cause) {i : Nat} (_ : i < 18) : c.bit.getLsbD i = decide (i = c.index) := by
  rw [Cause.bit, BitVec.getLsbD_shiftLeft, BitVec.getLsbD_one]
  by_cases hi : i = c.index
  · simp [hi, c.index_lt]
  · by_cases hlt : i < c.index
    · simp [hi, hlt]
    · simp [hi, hlt, show i - c.index ≠ 0 by omega]

/-- A cause latched is latched, and every other is as it was (R137). -/
theorem Attention.isLatched_latch (a : Attention) (c d : Cause) :
    (a.latch c).isLatched d = (a.isLatched d || decide (d = c)) := by
  simp only [Attention.isLatched, Attention.latch, BitVec.getLsbD_or, c.getLsbD_bit d.index_lt, Cause.index_inj]

@[simp] theorem Attention.isLatched_latchLane (a : Attention) (c d : Cause) (n : LaneId) :
    (a.latchLane c n).isLatched d = (a.isLatched d || decide (d = c)) := a.isLatched_latch c d

/-! ## The relation -/

/-- The active limit is what the calibration and the analyzer make it (R29). -/
def LimitFormed (s : State) : Prop := s.load.activeLimit = s.formLimit

/-- The horn's continuous condition is what the latched causes make it (R120). -/
def HornFormed (s : State) : Prop :=
  s.horn.continuous = (s.attention.isLatched .safeHold || s.attention.isLatched .flowLost)

/-- The active limit and what it is formed from are the same in `t` as in `s`, and the horn's continuous condition is
formed in `t` if it is in `s`. -/
structure KeepsSources (s t : State) : Prop where
  limit : t.load.activeLimit = s.load.activeLimit
  calibration : t.cal.values = s.cal.values
  fresh : (t.reading .analyzer).fresh = (s.reading .analyzer).fresh
  horn : HornFormed s → HornFormed t

theorem KeepsSources.refl (s : State) : KeepsSources s s := ⟨rfl, rfl, rfl, id⟩

theorem KeepsSources.trans {s t u : State} (h : KeepsSources s t) (h' : KeepsSources t u) : KeepsSources s u :=
  ⟨h'.limit.trans h.limit, h'.calibration.trans h.calibration, h'.fresh.trans h.fresh, h'.horn ∘ h.horn⟩

theorem KeepsSources.formLimit {s t : State} (h : KeepsSources s t) : t.formLimit = s.formLimit := by
  unfold State.formLimit
  rw [h.calibration, h.fresh]

theorem KeepsSources.limitFormed {s t : State} (h : KeepsSources s t) (hs : LimitFormed s) : LimitFormed t :=
  h.limit.trans (hs.trans h.formLimit.symm)

/-- An update of other fields. -/
theorem KeepsSources.of_fields {s t : State} (limit : t.load.activeLimit = s.load.activeLimit := by simp)
    (cal : t.cal.values = s.cal.values := by simp) (readings : t.readings = s.readings := by simp)
    (horn : t.horn = s.horn := by simp) (attention : t.attention = s.attention := by simp) : KeepsSources s t where
  limit := limit
  calibration := cal
  fresh := by simp only [State.reading, readings]
  horn := by simp only [HornFormed, horn, attention, imp_self]

theorem KeepsSources.ite {s t u : State} {c : Prop} [Decidable c] (ht : KeepsSources s t) (hu : KeepsSources s u) :
    KeepsSources s (if c then t else u) := by
  split
  · exact ht
  · exact hu

/-- A fold of operations that each keep the sources keeps them. -/
theorem KeepsSources.foldl {α : Type} {f : State → α → State} (h : ∀ s a, KeepsSources s (f s a)) (l : List α)
    (s : State) : KeepsSources s (l.foldl f s) := by
  induction l generalizing s with
  | nil => exact .refl s
  | cons a l ih => exact (h s a).trans (ih (f s a))

/-! ## The attention record -/

theorem hornFormed_tellHorn (s : State) : HornFormed s.tellHorn := rfl

/-- Latching a cause tells the horn where the cause is one of its two (R122). -/
theorem keepsSources_latch (s : State) (c : Cause) : KeepsSources s (s.latch c) where
  limit := by simp
  calibration := by simp
  fresh := by simp only [State.reading, State.latch_readings]
  horn h := by
    by_cases hc : c = .safeHold ∨ c = .flowLost
    · unfold State.latch
      rw [if_pos hc]
      exact hornFormed_tellHorn _
    · obtain ⟨hs, hf⟩ := not_or.1 hc
      have horn : (s.latch c).horn = s.horn := by unfold State.latch; rw [if_neg hc]
      unfold HornFormed
      rw [horn, State.latch_latched, Attention.isLatched_latch, Attention.isLatched_latch, decide_eq_false (Ne.symm hs),
        decide_eq_false (Ne.symm hf), Bool.or_false, Bool.or_false]
      exact h

/-- No cause with a lane set is one of the horn's two. -/
theorem keepsSources_latchLane (s : State) {c : Cause} (n : LaneId) (hs : c ≠ .safeHold := by decide)
    (hf : c ≠ .flowLost := by decide) : KeepsSources s (s.latchLane c n) where
  limit := rfl
  calibration := rfl
  fresh := rfl
  horn h := by
    unfold HornFormed
    rw [State.latchLane_attention, Attention.isLatched_latchLane, Attention.isLatched_latchLane,
      decide_eq_false (Ne.symm hs), decide_eq_false (Ne.symm hf), Bool.or_false, Bool.or_false]
    exact h

theorem keepsSources_startCadence (s : State) : KeepsSources s s.startCadence := by
  unfold State.startCadence
  split
  · exact .refl s
  · exact ⟨rfl, rfl, rfl, id⟩

/-! ## The lane unit -/

theorem keepsSources_settle (s : State) (n : LaneId) : KeepsSources s (s.settle n) := .of_fields

theorem keepsSources_modLane (s : State) (n : LaneId) (f : Lane → Lane) : KeepsSources s (s.modLane n f) := .of_fields

theorem keepsSources_decrease (s : State) (n : LaneId) (g : Nat) : KeepsSources s (s.decrease n g) := .of_fields

theorem keepsSources_removeTarget (s : State) (n : LaneId) : KeepsSources s (s.removeTarget n) := .of_fields

theorem keepsSources_stopLane (s : State) (n : LaneId) (state : LaneState) (graceMs : Nat) :
    KeepsSources s (s.stopLane n state graceMs) := .of_fields

theorem keepsSources_breakLane (s : State) (n : LaneId) : KeepsSources s (s.breakLane n) :=
  .ite ((keepsSources_stopLane ..).trans ((keepsSources_latchLane ..).trans (keepsSources_startCadence _))) (.refl s)

theorem keepsSources_suspendWhere (s : State) (test : LaneState → Bool) : KeepsSources s (s.suspendWhere test) :=
  .foldl (fun t _ => .ite (keepsSources_stopLane ..) (.refl t)) _ s

theorem keepsSources_checkInput (s : State) (n : LaneId) : KeepsSources s (s.checkInput n) :=
  .ite .of_fields (.refl s)

theorem keepsSources_resume (s : State) (n : LaneId) : KeepsSources s (s.resume n) :=
  .ite ((keepsSources_modLane ..).trans ((keepsSources_checkInput ..).trans (keepsSources_settle ..))) (.refl s)

theorem keepsSources_clampTarget (s : State) (n : LaneId) (max : Nat) : KeepsSources s (s.clampTarget n max) := by
  unfold State.clampTarget
  split
  · exact .ite (.ite (keepsSources_removeTarget ..) (keepsSources_modLane ..)) (.refl s)
  · exact .refl s

theorem keepsSources_clampLead (s : State) (n : LaneId) (bands : List Band) : KeepsSources s (s.clampLead n bands) := by
  unfold State.clampLead
  dsimp only
  split
  · exact .ite (keepsSources_modLane ..) (.refl s)
  · exact .refl s

theorem keepsSources_trimLane (s : State) (bands : List Band) (n : LaneId) : KeepsSources s (s.trimLane bands n) :=
  (KeepsSources.ite (keepsSources_decrease ..) (.refl s)).trans ((keepsSources_clampTarget ..).trans
    ((keepsSources_clampLead ..).trans (keepsSources_settle ..)))

theorem keepsSources_trimLanes (s : State) (key : Nat) (bands : List Band) :
    KeepsSources s (s.trimLanes key bands) :=
  .foldl (fun t n => .ite (keepsSources_trimLane t bands n) (.refl t)) _ s

theorem keepsSources_thread (s : State) (n : LaneId) (key : Nat) : KeepsSources s (s.thread n key) :=
  (keepsSources_modLane ..).trans ((keepsSources_checkInput ..).trans (keepsSources_settle ..))

theorem keepsSources_unbind (s : State) (key : Nat) : KeepsSources s (s.unbind key).1 := by
  cases hp : findProfile s.profiles key with
  | none => rw [unbind_none hp]; exact .refl s
  | some p =>
    rcases unbind_cases hp with ⟨-, -, h⟩ | ⟨-, h⟩ <;> rw [h]
    · exact .trans (t := s.removeRecord p) ⟨rfl, rfl, rfl, id⟩ (keepsSources_latch _ .profileRetired)
    · exact ⟨rfl, rfl, rfl, id⟩

theorem keepsSources_unthread (s : State) (n : LaneId) (key : Nat) : KeepsSources s (s.unthread n key).1 :=
  .trans (t := ((s.removeTarget n).modLane n fun l => l.unthread s.graceMs)) .of_fields
    ((keepsSources_unbind ..).trans (keepsSources_settle ..))

theorem keepsSources_takeTargetNow (s : State) (n : LaneId) (t : Nat) : KeepsSources s (s.takeTargetNow n t) :=
  .ite .of_fields (.ite .of_fields .of_fields)

theorem keepsSources_queueTarget (s : State) (n : LaneId) (t : Nat) : KeepsSources s (s.queueTarget n t) :=
  (keepsSources_modLane ..).trans (.ite (.refl _) .of_fields)

theorem keepsSources_judgeSpeed (s : State) (n : LaneId) : KeepsSources s (s.judgeSpeed n) := by
  have written (l : Lane) : KeepsSources s (s.setLane n l) := .of_fields
  unfold State.judgeSpeed
  exact .ite (.refl s) (.ite (.ite (written _) (.ite (written _)
    (.ite ((written _).trans (keepsSources_latchLane ..)) (.refl s)))) (written _))

/-! ## The dryer -/

theorem keepsSources_enterDryer (s : State) (d : DryerState) : KeepsSources s (s.enterDryer d) := .of_fields

theorem keepsSources_dryer (s : State) (d : Dryer) : KeepsSources s { s with dryer := d } := .of_fields

theorem keepsSources_exhaust (s : State) (e : Exhaust) : KeepsSources s { s with exhaust := e } := .of_fields

theorem keepsSources_requestSafeHold (s : State) (c : HoldCause) : KeepsSources s (s.requestSafeHold c) :=
  .ite (((keepsSources_enterDryer ..).trans (keepsSources_latch ..)).trans
    ((keepsSources_dryer ..).trans (keepsSources_suspendWhere ..))) (.refl s)

theorem keepsSources_enterHeating (s : State) : KeepsSources s s.enterHeating :=
  (keepsSources_enterDryer ..).trans (.foldl keepsSources_resume _ _)

theorem keepsSources_endCooldown (s : State) : KeepsSources s s.endCooldown :=
  (keepsSources_enterDryer ..).trans (keepsSources_latch ..)

theorem keepsSources_testCool (s : State) : KeepsSources s s.testCool := .ite (keepsSources_endCooldown s) (.refl s)

theorem keepsSources_enterCooldown (s : State) : KeepsSources s s.enterCooldown :=
  (keepsSources_enterDryer ..).trans ((keepsSources_dryer ..).trans
    ((keepsSources_suspendWhere ..).trans (keepsSources_testCool _)))

theorem keepsSources_judgeFlow (s : State) (count : Nat) : KeepsSources s (s.judgeFlow count).1 :=
  .ite ((keepsSources_exhaust ..).trans (keepsSources_latch ..)) (keepsSources_exhaust ..)

theorem keepsSources_flowInHeating (s : State) (count : Nat) : KeepsSources s (s.flowInHeating count) :=
  .ite ((keepsSources_judgeFlow ..).trans (keepsSources_requestSafeHold ..)) (keepsSources_judgeFlow ..)

theorem keepsSources_clearAccumulator (s : State) : KeepsSources s s.clearAccumulator := keepsSources_exhaust ..

theorem keepsSources_flowInPurge (s : State) (count : Nat) : KeepsSources s (s.flowInPurge count) := by
  have judged := (keepsSources_exhaust s _).trans (keepsSources_judgeFlow (s.accumulate count) count)
  have summed := KeepsSources.ite (c := ((s.accumulate count).judgeFlow count).2 = true)
    (judged.trans (keepsSources_clearAccumulator _)) judged
  exact .ite (summed.trans (keepsSources_enterHeating _)) summed

theorem keepsSources_flowWindow (s : State) : KeepsSources s s.flowWindow := by
  have formed : KeepsSources s s.formFlow := keepsSources_exhaust s _
  unfold State.flowWindow
  split
  · exact formed.trans (keepsSources_flowInHeating ..)
  · exact formed.trans (keepsSources_flowInPurge ..)
  · exact formed

/-! ## The grant arbiter -/

theorem keepsSources_arbiter (s : State) (a : Arbiter) : KeepsSources s { s with arbiter := a } := .of_fields

theorem keepsSources_evaluation : EvaluationRelation KeepsSources where
  service :=
    { refl := .refl
      trans := .trans
      settle := fun s n _ => keepsSources_settle s n
      raise := fun _ _ _ _ _ => .of_fields
      removeTarget := fun s n _ => keepsSources_removeTarget s n
      reached := fun s n _ => keepsSources_latchLane s n
      lead := fun s n _ _ => keepsSources_modLane s n _ }
  hotWeb :=
    { refl := .refl
      trans := .trans
      count := fun s n _ _ => keepsSources_modLane s n _
      decrease := fun s n g _ => keepsSources_decrease s n g
      hot := fun s n _ => keepsSources_latchLane s n }
  withdrawn s n := keepsSources_latchLane s n
  excess s := keepsSources_arbiter s _
  requestSafeHold s := keepsSources_requestSafeHold s _

theorem keepsSources_evaluate (s : State) : KeepsSources s s.evaluate :=
  .trans (t := s.holdEstimate) (.of_fields rfl) (keepsSources_evaluation.evaluate s)

/-! ## Readings -/

theorem keepsSources_judgeCut (s : State) (p : Channel × Int) : KeepsSources s (s.judgeCut p) := by
  unfold State.judgeCut
  split
  · exact .ite (.ite .of_fields (.refl s)) (.ite (.trans .of_fields (keepsSources_latchLane ..)) (.refl s))
  · exact .refl s

theorem keepsSources_judgeBand (s : State) (p : Channel × Int) : KeepsSources s (s.judgeBand p) := by
  unfold State.judgeBand
  split
  · exact keepsSources_settle ..
  · exact .refl s

theorem keepsSources_judgeAnalyzer (s : State) (p : Channel × Int) : KeepsSources s (s.judgeAnalyzer p) := by
  unfold State.judgeAnalyzer
  split
  · exact .ite (.trans (keepsSources_arbiter ..)
      (.ite ((keepsSources_latch ..).trans (keepsSources_requestSafeHold ..)) (.refl _))) (.refl s)
  · exact .refl s

end Sys2Proof.Machine
end

section
/-! PROOF. Every step keeps the active limit, the fan demand and the output lines as the records make them (R29, R33,
R145): a command ends by forming them afresh, or changes nothing that they are formed from. -/

namespace Sys2Proof.Machine

/-! ## Formed afresh, or from the same records -/

/-- The figures law with the horn's continuous condition. -/
structure Formed (s : State) : Prop extends FiguresLaw s where
  horn : HornFormed s

/-- A state re-formed has its figures formed, its limit being formed already. -/
theorem formed_reform {s : State} (hl : LimitFormed s) (hh : HornFormed s) : Formed s.reform := ⟨⟨hl, rfl, rfl⟩, hh⟩

theorem Formed.reform {s t : State} (f : Formed s) (h : KeepsSources s t) : Formed t.reform :=
  formed_reform (h.limitFormed f.limit) (h.horn f.horn)

/-- What the loads read of a lane record, but for its key. -/
structure Lane.SameLoad (l m : Lane) : Prop where
  state : m.state = l.state
  g : m.g = l.g
  target : m.target = l.target
  measured : m.measured = l.measured
  overspeed : m.overspeed = l.overspeed
  residual : m.residual = l.residual

theorem Lane.SameLoad.refl (l : Lane) : l.SameLoad l := ⟨rfl, rfl, rfl, rfl, rfl, rfl⟩

section
variable {s t : State} (lane : ∀ n, (s.lane n).SameLoad (t.lane n)) (profile : ∀ n u, t.loadAt n u = s.loadAt n u)
include lane profile

theorem laneLoad_congr (n : LaneId) : t.laneLoad n = s.laneLoad n := by
  obtain ⟨hs, hg, -, hm, ho, hr⟩ := lane n
  unfold State.laneLoad Lane.countedSpeed
  simp only [hs, hg, hm, ho, hr, profile]

theorem forecastLoad_congr (queue : t.arbiter.queue = s.arbiter.queue) : t.forecastLoad = s.forecastLoad := by
  have forecast (n : LaneId) : t.forecastOf n = s.forecastOf n := by
    unfold State.forecastOf
    rw [queue, (lane n).target]
    simp only [profile, laneLoad_congr lane profile]
  unfold State.forecastLoad
  rw [funext forecast]

end

/-- Nothing that the figures are formed from differs between two states. -/
structure SameFigures (s t : State) : Prop where
  sources : KeepsSources s t
  demand : t.load.fanDemand = s.load.fanDemand
  lines : t.lines = s.lines
  dryer : t.dryer.state = s.dryer.state
  queue : t.arbiter.queue = s.arbiter.queue
  lane : ∀ n, (s.lane n).SameLoad (t.lane n)
  profile : ∀ n u, t.loadAt n u = s.loadAt n u
  cuts : t.cuts = s.cuts
  horn : t.horn.line = s.horn.line
  attention : t.attention.line = s.attention.line

section
variable {s t : State} (h : SameFigures s t)
include h

theorem SameFigures.formDemand : t.formDemand = s.formDemand := by
  unfold State.formDemand State.requiredFlow
  rw [h.dryer, h.sources.calibration, h.sources.limit, forecastLoad_congr h.lane h.profile h.queue]

theorem SameFigures.formLines : t.formLines = s.formLines := by
  unfold State.formLines State.fanDuty State.burnerPermit
  simp only [h.dryer, h.sources.calibration, h.demand, h.cuts, h.horn, h.attention, (h.lane _).g, (h.lane _).state]

end

theorem Formed.same {s t : State} (f : Formed s) (h : SameFigures s t) : Formed t where
  limit := h.sources.limitFormed f.limit
  demand := h.demand.trans (f.demand.trans h.formDemand.symm)
  lines := h.lines.trans (f.lines.trans h.formLines.symm)
  horn := h.sources.horn f.horn

/-- A change of the profile table, its marks and the commit that changes no load. -/
theorem Formed.table {s : State} (f : Formed s) (ps : List Profile) (marks : BitVec 48) (commit : Option Commit)
    (profile : ∀ n u, ({ s with profiles := ps } : State).loadAt n u = s.loadAt n u) :
    Formed { s with profiles := ps, marks := marks, commit := commit } :=
  f.same ⟨.of_fields, rfl, rfl, rfl, rfl, fun _ => .refl _, profile, rfl, rfl, rfl⟩

/-- A lane record changed, but nothing that its load goes by. -/
theorem Formed.modLane {s : State} (f : Formed s) (n : LaneId) {g : Lane → Lane}
    (hk : (g (s.lane n)).key = (s.lane n).key) (hl : (s.lane n).SameLoad (g (s.lane n))) : Formed (s.modLane n g) := by
  have lane (m : LaneId) : ((s.modLane n g).lane m).key = (s.lane m).key ∧ (s.lane m).SameLoad ((s.modLane n g).lane m) := by
    by_cases hm : m = n
    · subst hm; rw [State.lane_modLane_same]; exact ⟨hk, hl⟩
    · rw [State.lane_modLane_other _ _ hm]; exact ⟨rfl, .refl _⟩
  refine f.same ⟨.of_fields, rfl, rfl, rfl, rfl, fun m => (lane m).2, fun m u => ?_, rfl, rfl, rfl⟩
  unfold State.loadAt State.profileOf
  rw [(lane m).1]
  rfl

/-! ## The limit formed afresh -/

/-- What taking values does: the analyzer can become fresh, and nothing else that the limit is formed from changes. -/
theorem foldl_takeValue (pairs : List (Channel × Int)) (s : State) :
    (pairs.foldl State.takeValue s).load = s.load ∧ (pairs.foldl State.takeValue s).cal = s.cal ∧
      (pairs.foldl State.takeValue s).horn = s.horn ∧ (pairs.foldl State.takeValue s).attention = s.attention ∧
      ((s.reading .analyzer).fresh = true → ((pairs.foldl State.takeValue s).reading .analyzer).fresh = true) := by
  induction pairs generalizing s with
  | nil => exact ⟨rfl, rfl, rfl, rfl, id⟩
  | cons p ps ih =>
    obtain ⟨hl, hc, hh, ha, hf⟩ := ih (s.takeValue p)
    refine ⟨hl.trans (by simp [State.takeValue]), hc.trans (by simp [State.takeValue]),
      hh.trans (by simp [State.takeValue]), ha.trans (by simp [State.takeValue]), fun h => hf ?_⟩
    unfold State.takeValue
    by_cases hp : Channel.analyzer = p.1
    · rw [← hp, State.reading_setReading_same]
    · rw [State.reading_setReading_other _ _ hp, h]

/-- Readings taken leave the limit formed: it is formed afresh where the analyzer becomes fresh (R29, R101). -/
theorem formed_takeReadings {s : State} (hl : LimitFormed s) (hh : HornFormed s) (pairs : List (Channel × Int)) :
    LimitFormed (s.takeReadings pairs) ∧ HornFormed (s.takeReadings pairs) := by
  obtain ⟨load, cal, horn, attention, fresh⟩ := foldl_takeValue pairs s
  set t := pairs.foldl State.takeValue s
  have judged : KeepsSources t (pairs.foldl State.judgeBand (pairs.foldl State.judgeCut t)) :=
    (KeepsSources.foldl keepsSources_judgeCut pairs t).trans (.foldl keepsSources_judgeBand pairs _)
  set u := pairs.foldl State.judgeBand (pairs.foldl State.judgeCut t)
  have hornFormed : HornFormed u := judged.horn (by unfold HornFormed; rw [horn, attention]; exact hh)
  have formed : LimitFormed (if !(s.reading .analyzer).fresh && (u.reading .analyzer).fresh then u.reformLimit else u) := by
    split
    next => rfl
    next h =>
      have same : (u.reading .analyzer).fresh = (s.reading .analyzer).fresh := by
        rw [judged.fresh] at h ⊢
        cases hs : (s.reading .analyzer).fresh <;> simp_all
      unfold LimitFormed State.formLimit
      rw [judged.limit, judged.calibration, load, cal, same]
      exact hl
  have rest (v : State) : KeepsSources v
      (if pairs.any (fun p => p.1.isZone) then (pairs.foldl State.judgeAnalyzer v).testCool
        else pairs.foldl State.judgeAnalyzer v) :=
    .ite ((KeepsSources.foldl keepsSources_judgeAnalyzer pairs v).trans (keepsSources_testCool _))
      (.foldl keepsSources_judgeAnalyzer pairs v)
  refine ⟨(rest _).limitFormed formed, (rest _).horn ?_⟩
  split
  · exact hornFormed
  · exact hornFormed

section
variable (s : State) (c : Channel)

theorem keepsSources_latchStale : KeepsSources s (s.latchStale c) := by
  unfold State.latchStale
  split
  · exact keepsSources_latchLane ..
  · exact (keepsSources_latch s .readingStale).trans ⟨rfl, rfl, rfl, id⟩

theorem keepsSources_clearExcess : KeepsSources s s.clearExcess := .ite (keepsSources_arbiter ..) (.refl s)

/-- A reading written leaves the horn's condition, and the limit's sources where it is not the analyzer's. -/
theorem hornFormed_setReading (r : Reading) : HornFormed (s.setReading c r) ↔ HornFormed s := by
  unfold HornFormed
  rw [State.setReading_horn, State.setReading_attention]

theorem keepsSources_setReading {c : Channel} (r : Reading) (hc : .analyzer ≠ c) : KeepsSources s (s.setReading c r) where
  limit := by simp
  calibration := by simp
  fresh := by rw [State.reading_setReading_other _ _ hc]
  horn := (hornFormed_setReading s c r).2

end

/-- A channel that goes stale leaves the limit formed: it is formed afresh for the analyzer (R29, R109). -/
theorem limitFormed_goStale {s : State} (h : LimitFormed s) (c : Channel) : LimitFormed (s.goStale c) := by
  unfold State.goStale
  dsimp only
  split
  next n z =>
    exact ((keepsSources_setReading s _ (by simp)).trans ((keepsSources_latchStale ..).trans
      ((keepsSources_settle _ n).trans (keepsSources_testCool _)))).limitFormed h
  next => exact (keepsSources_clearExcess (State.reformLimit _)).limitFormed rfl
  next _ hc => exact ((keepsSources_setReading s _ (Ne.symm hc)).trans (keepsSources_latchStale ..)).limitFormed h

theorem hornFormed_goStale {s : State} (h : HornFormed s) (c : Channel) : HornFormed (s.goStale c) := by
  have told := (keepsSources_latchStale _ c).horn ((hornFormed_setReading s c { s.reading c with fresh := false }).2 h)
  unfold State.goStale
  dsimp only
  split
  · exact ((keepsSources_settle ..).trans (keepsSources_testCool _)).horn told
  · exact (keepsSources_clearExcess (State.reformLimit _)).horn told
  · exact told

/-- What the going stale of a channel keeps, the judgement of the ages keeps. -/
theorem judgeAges_induction {P : State → Prop}
    (h : ∀ {s} (c : Channel), (s.reading c).fresh = true → P s → P (s.goStale c)) {s : State} (hs : P s) :
    P s.judgeAges := by
  unfold State.judgeAges
  induction Channel.all generalizing s with
  | nil => exact hs
  | cons c cs ih =>
    rw [List.foldl_cons]
    split
    next hc => exact ih (h c (Bool.and_eq_true_iff.1 hc).1 hs)
    next => exact ih hs

end Sys2Proof.Machine
end

section
/-! PROOF. Every request keeps the figures formed: it forms them afresh, or changes the table at no lane's profile. -/

namespace Sys2Proof.Machine

/-! ## The profile table -/

/-- The loads go by the fields of the records that lanes are bound to. -/
theorem loadAt_congr {s : State} {ps : List Profile} (h : ∀ n k, (s.lane n).key = some k →
    (findProfile ps k).map (·.toProfileFields) = (findProfile s.profiles k).map (·.toProfileFields)) (n : LaneId) (u : Nat) :
    ({ s with profiles := ps } : State).loadAt n u = s.loadAt n u := by
  have lane : ({ s with profiles := ps } : State).lane n = s.lane n := rfl
  have load (o : Option Profile) : o.map (·.loadAt u) = (o.map (·.toProfileFields)).map (·.loadAt u) := by
    rw [Option.map_map]; rfl
  unfold State.loadAt State.profileOf
  rw [lane]
  cases hk : (s.lane n).key with
  | none => rfl
  | some k =>
    dsimp only
    rw [load, load, h n k hk]

/-- No lane carries the key of a record without a lane (R10). -/
theorem BindingLaw.ne_key {s : State} (l : BindingLaw s) {p : Profile} (hp : p ∈ s.profiles) (hb : p.bindCount = 0)
    {n : LaneId} {k : Nat} (hk : (s.lane n).key = some k) : k ≠ p.key := fun e =>
  lanesBound_eq_zero.1 ((l.counted p hp).symm.trans hb) n (e ▸ hk)

section
variable {s : State} (f : Formed s) (l : BindingLaw s) (body : List Byte)
include f

theorem Formed.removeRecord (l : BindingLaw s) {p : Profile} (hp : p ∈ s.profiles) (hb : p.bindCount = 0) :
    Formed (s.removeRecord p) :=
  f.table _ _ _ (loadAt_congr fun _ _ hk => by rw [findProfile_removeProfile_other _ (l.ne_key hp hb hk)])

theorem Formed.writeProfile (l : BindingLaw s) (g : ProfileFields) : Formed (s.writeProfile g).1 := by
  unfold State.writeProfile
  split
  next p hp =>
    split
    · exact f
    · split
      · exact f
      next hb =>
        have other {n : LaneId} {k : Nat} (hk : (s.lane n).key = some k) : k ≠ g.key :=
          findProfile_key hp ▸ l.ne_key (findProfile_mem hp) (Nat.eq_zero_of_not_pos hb) hk
        exact f.table _ _ _ (loadAt_congr fun _ _ hk => by
          rw [findProfile_replaceProfile_other _ (by exact other hk)])
  next hnone =>
    split
    · exact f
    · have other {n : LaneId} {k : Nat} (hk : (s.lane n).key = some k) : k ≠ g.key := fun e => by
        have := l.present n k hk
        rw [e, hnone] at this
        cases this
      exact f.table _ _ _ (loadAt_congr fun _ _ hk => by
        rw [findProfile_insertProfile_other _ (by exact other hk)])

include l

theorem Formed.pwrite : Formed (takePwrite body s).1 := by
  unfold takePwrite
  split
  · exact f
  · split
    · exact f
    · split
      · exact f
      · split
        · exact f
        · split
          · exact f
          · split
            · exact f
            · exact f.writeProfile l _

theorem Formed.pretire : Formed (takePretire body s).1 := by
  unfold takePretire
  split
  · exact f
  · split
    · split
      · exact f
      next p hp =>
        unfold State.retire
        split
        · exact f
        · split
          next hb => exact f.removeRecord l (findProfile_mem hp) hb
          next =>
            refine f.table _ _ _ (loadAt_congr fun n k hk => ?_)
            by_cases e : k = p.key
            · have found := findProfile_self hp
              rw [e, findProfile_replaceProfile_same (p := { p with retirePending := true }) (by rw [found]; rfl), found]
              rfl
            · rw [findProfile_replaceProfile_other (p := { p with retirePending := true }) _ e]
    · exact f

end

/-! ## Requests -/

theorem keepsSources_table (s : State) (ps : List Profile) (marks : BitVec 48) :
    KeepsSources s { s with profiles := ps, marks := marks } := .of_fields

theorem keepsSources_continueCommit (s : State) (c : Commit) : KeepsSources s (s.continueCommit c) :=
  .ite (.trans (t := { s with commit := none }) .of_fields (keepsSources_latch ..)) .of_fields

/-- A calibration taken forms the limit afresh (R29, R152). -/
theorem limitFormed_takeCalibration (s : State) (c : Calibration) : LimitFormed (s.takeCalibration c) := by
  unfold State.takeCalibration
  exact judgeAges_induction (P := LimitFormed) (fun c _ h => limitFormed_goStale h c) rfl

theorem hornFormed_takeCalibration {s : State} (h : HornFormed s) (c : Calibration) :
    HornFormed (s.takeCalibration c) := by
  unfold State.takeCalibration
  exact judgeAges_induction (P := HornFormed) (fun c _ h => hornFormed_goStale h c) h

section
variable {s : State} (f : Formed s) (body : List Byte)
include f

theorem Formed.ptrim : Formed (takePtrim body s).1 := by
  unfold takePtrim
  split
  · exact f
  · split
    · exact f
    · split
      · exact f
      · split
        · exact f
        · unfold State.trimProfile
          split
          · exact f
          · split
            · exact f
            · split
              · exact f
              · exact f.reform ((keepsSources_table ..).trans (keepsSources_trimLanes ..))

theorem Formed.lthrd : Formed (takeLthrd body s).1 := by
  unfold takeLthrd
  split
  · split
    · exact f
    · split
      · exact f
      · split
        · split
          · exact f
          next hb =>
            obtain ⟨p, -, -, rfl, -⟩ := bind_eq_ok.1 hb
            exact f.reform ((keepsSources_table ..).trans (keepsSources_thread ..))
        · exact f
  · exact f

theorem Formed.lunth : Formed (takeLunth body s).1 := by
  unfold takeLunth
  dsimp only
  split
  · split
    · exact f
    · split
      · exact f
      · split
        · exact f
        · exact f.reform (keepsSources_unthread ..)
  · exact f

theorem Formed.lspd : Formed (takeLspd body s).1 := by
  unfold takeLspd
  split
  · split
    · exact f
    · split
      · exact f
      · split
        · exact f
        · dsimp only
          split
          · exact f
          · exact f.reform ((KeepsSources.ite (keepsSources_queueTarget ..) (keepsSources_takeTargetNow ..)).trans
              (keepsSources_settle ..))
  · exact f

theorem Formed.lclr : Formed (takeLclr body s).1 := by
  unfold takeLclr
  split
  · split
    · exact f
    · split
      · exact f
      · split
        · exact f
        · exact f.reform ((keepsSources_modLane ..).trans (keepsSources_settle ..))
      · exact f
  · exact f

theorem Formed.lbrk : Formed (takeLbrk body s).1 := by
  unfold takeLbrk
  split
  · split
    · exact f.reform (.foldl keepsSources_breakLane _ _)
    · exact f
  · exact f

theorem Formed.dstart : Formed (takeDstart body s).1 := by
  unfold takeDstart
  split
  · split
    · split
      · exact f.reform .of_fields
      · exact f
    · exact f
  · exact f

theorem Formed.dstop : Formed (takeDstop body s).1 := by
  have cooling : Formed s.enterCooldown.reform := f.reform (keepsSources_enterCooldown s)
  unfold takeDstop
  split
  · split
    · exact f
    · exact f
    · split
      · exact f
      · exact cooling
    · exact cooling
    · exact cooling
  · exact f

theorem Formed.rdg : Formed (takeRdg body s).1 := by
  unfold takeRdg
  split
  · exact f
  · split
    · exact f
    · split
      · exact f
      · split
        · exact f
        · obtain ⟨limit, horn⟩ := formed_takeReadings f.limit f.horn _
          exact formed_reform limit horn

theorem Formed.beat : Formed (takeBeat body s).1 := by
  unfold takeBeat
  split
  · exact { f with }
  · exact f

theorem Formed.atclr : Formed (takeAtclr body s).1 := by
  unfold takeAtclr
  split
  · split
    · exact f
    · exact formed_reform f.limit (hornFormed_tellHorn _)
  · exact f

theorem Formed.atmsk : Formed (takeAtmsk body s).1 := by
  unfold takeAtmsk
  split
  · split
    · exact f
    · exact f.reform ⟨rfl, rfl, rfl, id⟩
  · exact f

theorem Formed.pkrd : Formed (takePkrd body s).1 := by
  unfold takePkrd
  dsimp only
  split
  · split
    · exact f
    · split
      · exact { f with }
      · exact f
  · exact f

theorem Formed.scommit : Formed (takeScommit body s).1 := by
  unfold takeScommit
  split
  · exact f
  · split
    · exact f.reform (keepsSources_continueCommit ..)
    · exact f

theorem Formed.cwr : Formed (takeCwr body s).1 := by
  unfold takeCwr
  split
  · exact f
  · split
    · exact f
    · split
      · exact f
      · split
        · exact f
        · exact formed_reform (limitFormed_takeCalibration ..) (hornFormed_takeCalibration f.horn _)

theorem Formed.srst : Formed (takeSrst body s).1 := by
  unfold takeSrst
  split
  · split
    · exact { f with }
    · exact f
  · exact f

theorem Formed.kstat : Formed (takeKstat body s).1 := by
  unfold takeKstat
  dsimp only
  split
  · split
    · exact f
    · split
      · exact { f with }
      · exact f
  · exact f

end

/-- Every request keeps the figures formed. -/
theorem Formed.owner {s : State} (f : Formed s) (l : BindingLaw s) {code : Byte}
    {take : List Byte → State → State × Reply} (ht : ownerOf code = some take) (body : List Byte) :
    Formed (take body s).1 := by
  obtain ⟨hplook, hplist, hlstat, hdstat, hatrd, hcrd⟩ := takes_nothing body s
  unfold ownerOf at ht
  split at ht <;> cases ht
  · rwa [hplook]
  · rwa [hplist]
  · exact f.pwrite l body
  · exact f.ptrim body
  · exact f.pretire l body
  · exact f.lthrd body
  · exact f.lunth body
  · exact f.lspd body
  · exact f.lclr body
  · exact f.lbrk body
  · rwa [hlstat]
  · exact f.dstart body
  · exact f.dstop body
  · rwa [hdstat]
  · exact f.rdg body
  · exact f.beat body
  · rwa [hatrd]
  · exact f.atclr body
  · exact f.atmsk body
  · exact f.pkrd body
  · exact f.scommit body
  · rwa [hcrd]
  · exact f.cwr body
  · exact f.srst body
  · exact f.kstat body

end Sys2Proof.Machine
end

section
/-! PROOF. A millisecond and a slot write keep the figures formed, and a restart leaves every line low (R145). -/

namespace Sys2Proof.Machine

/-! ## Time, slot writes and restarts -/

theorem Lane.SameLoad.later (l : Lane) (leadLimit : Nat) : l.SameLoad (l.later leadLimit) := ⟨rfl, rfl, rfl, rfl, rfl, rfl⟩

theorem Reading.later_fresh (r : Reading) (staleMs : Nat) : (r.later staleMs).fresh = r.fresh := by
  unfold Reading.later
  split <;> rfl

/-- A millisecond moves no record that the figures are formed from. -/
theorem Formed.later {s : State} (f : Formed s) : Formed s.later := by
  have lane (n : LaneId) : s.later.lane n = (s.lane n).later (s.cal.values.leadTimeout * 1000) := PerLane.get_form ..
  have loads (n : LaneId) (u : Nat) : s.later.loadAt n u = s.loadAt n u := by
    unfold State.loadAt State.profileOf
    rw [lane]
    rfl
  refine f.same ⟨⟨rfl, rfl, Reading.later_fresh .., id⟩, rfl, rfl, rfl, rfl, fun n => lane n ▸ .later .., loads, rfl, ?_, rfl⟩
  unfold State.later Horn.line
  cases s.horn.cadence <;> rfl

theorem Formed.tick {s : State} (f : Formed s) : Formed s.tick := by
  have passed : Formed s.pass := { f.later with }
  rcases s.tick_cases with ⟨-, h⟩ | ⟨-, -, h⟩ | ⟨i, rest, -, -, -, h⟩ | ⟨-, -, -, h⟩ <;> rw [h]
  · exact f
  · exact { f with }
  · exact { f with }
  · unfold State.post
    split
    · exact passed
    · exact { passed with }

theorem keepsSources_attentionDetail (s : State) {a : Attention} (h : a.latched = s.attention.latched) :
    KeepsSources s { s with attention := a } :=
  ⟨rfl, rfl, rfl, fun hh => by unfold HornFormed Attention.isLatched; dsimp only; rw [h]; exact hh⟩

theorem keepsSources_latchSlotFault (s : State) (i : Nat) : KeepsSources s (s.latchSlotFault i) :=
  (keepsSources_latch ..).trans (keepsSources_attentionDetail _ rfl)

theorem keepsSources_latchCalibrationFault (s : State) : KeepsSources s s.latchCalibrationFault :=
  (keepsSources_latch ..).trans (keepsSources_attentionDetail _ rfl)

theorem keepsSources_stepFree (s : State) : KeepsSources s s.stepFree := ⟨rfl, rfl, rfl, id⟩

theorem keepsSources_slotWritten (s : State) (i : Nat) (image : Option ProfileImage) (remarked : BitVec 48)
    (verified : Bool) : KeepsSources s (s.slotWritten i image remarked verified) := by
  have written : KeepsSources s (s.setSlot i (writtenContent image verified s.freeIndex)) := ⟨rfl, rfl, rfl, id⟩
  exact .ite (written.trans (.ite (.refl _) .of_fields))
    (written.trans ((keepsSources_stepFree _).trans (keepsSources_latchSlotFault ..)))

theorem keepsSources_calibrationWritten (s : State) (values : List Nat) (verified : Bool) :
    KeepsSources s (s.calibrationWritten values verified) := by
  have written : KeepsSources s (s.setCalibrationSlot (writtenContent (some values) verified s.freeIndex)) := ⟨rfl, rfl, rfl, id⟩
  exact .ite (written.trans ⟨rfl, rfl, rfl, id⟩)
    (written.trans ((keepsSources_stepFree _).trans (keepsSources_latchCalibrationFault _)))

theorem keepsSources_writeDone (s : State) (c : Commit) (verified : Bool) :
    KeepsSources s (s.writeDone c verified) := by
  unfold State.writeDone
  split
  · exact (keepsSources_slotWritten ..).trans (keepsSources_continueCommit ..)
  · split
    · exact (keepsSources_calibrationWritten ..).trans (keepsSources_continueCommit ..)
    · exact .trans (t := { s with commit := none }) .of_fields (keepsSources_latch ..)

/-- The records of a part that has just started: nothing stands on its lines. -/
structure Resting (s : State) : Prop where
  lanes : ∀ n, s.lane n = .fresh
  dryer : s.dryer.state = .off
  analyzer : (s.reading .analyzer).fresh = false
  limit : s.load.activeLimit = s.cal.values.normalLimit
  demand : s.load.fanDemand = 0
  lines : s.lines = .low
  horn : s.horn = ⟨none, false⟩
  mask : s.attention.mask = routineCauses
  latched : s.attention.latched = 0 ∨ s.attention.latched = Cause.storeSlotLost.bit

/-- The slots lost are a masked cause. -/
theorem Resting.silent {s : State} (r : Resting s) : s.attention.line = false ∧
    s.attention.isLatched .safeHold = false ∧ s.attention.isLatched .flowLost = false := by
  unfold Attention.line Attention.isLatched
  rw [r.mask]
  rcases r.latched with h | h <;> rw [h] <;> decide

theorem Resting.formed {s : State} (r : Resting s) : Formed s where
  limit := by
    rw [r.limit, State.formLimit, r.analyzer, Bool.and_false]
    rfl
  demand := by rw [r.demand, State.formDemand, r.dryer]
  lines := by
    rw [r.lines, State.formLines, r.demand, r.horn, r.silent.1]
    simp [State.fanDuty, State.burnerPermit, r.lanes, r.dryer, speedDuty, Lane.fresh, Horn.line, PerLane.form,
      PerZone.form, Lines.low]
  horn := by rw [HornFormed, r.horn, r.silent.2.1, r.silent.2.2]; rfl

/-- The slots lost are the only cause that a restart latches (R139, R149). -/
theorem Resting.latchLost {s : State} (r : Resting s) (h : s.attention.latched = 0) (lost : Nat) :
    Resting (s.latchLost lost) := by
  unfold State.latchLost
  split
  · exact r
  · exact
    { lanes := fun n => (State.lane_latch ..).trans (r.lanes n)
      dryer := (congrArg Dryer.state (State.latch_dryer ..)).trans r.dryer
      analyzer := r.analyzer
      limit := r.limit
      demand := r.demand
      lines := r.lines
      horn := r.horn
      mask := r.mask
      latched := .inr (by show s.attention.latched ||| _ = _; rw [h]; exact BitVec.zero_or) }

theorem resting_boot (s : State) (straps : Straps) (levels : PerLane Bool) : Resting (s.boot straps levels) := by
  unfold State.boot
  exact Resting.latchLost ⟨fun n => by cases n <;> rfl, rfl, rfl, rfl, rfl, rfl, rfl, rfl, .inl rfl⟩ rfl _

theorem resting_losePower (s : State) : Resting s.losePower :=
  ⟨fun n => by cases n <;> rfl, rfl, rfl, rfl, rfl, rfl, rfl, rfl, .inl rfl⟩

end Sys2Proof.Machine
end

section
/-! PROOF. Every step keeps the figures formed (O11), and what the output lines then carry (O14). -/

namespace Sys2Proof.Machine

/-! ## Commands and steps -/

/-- Every command that is not of the line keeps the figures formed. -/
theorem Formed.exec_offLine {i : Instr} {s t : State} (f : Formed s) (hi : offLine i = true) (h : exec i s = .next t) :
    Formed t := by
  have next {u : State} (hu : Formed u) (h : Host.Outcome.next u = (.next t : Host.Outcome State Fault Refusal)) :
      Formed t := by
    cases h; exact hu
  have test {c : Prop} [Decidable c] {u v : State} (hu : Formed u) (hv : Formed v) : Formed (if c then u else v) := by
    split
    · exact hu
    · exact hv
  have powered {u : State} (h : Host.Outcome.next (if s.powered then u else s) =
      (.next t : Host.Outcome State Fault Refusal)) (hu : Formed u) : Formed t := next (test hu f) h
  cases i
  case stationReset straps =>
    have booted := (resting_boot s straps s.breakLevels).formed
    refine next ?_ h
    exact test { booted with } f
  case powerOn => exact next (resting_boot ..).formed h
  case powerLoss => exact next (test (resting_losePower s).formed f) h
  case evaluation => exact powered h (test (f.reform ((keepsSources_arbiter ..).trans (keepsSources_evaluate _))) { f with })
  case encoderWindow n =>
    exact powered h (f.reform ((keepsSources_modLane ..).trans (keepsSources_judgeSpeed ..)))
  case flowWindow => exact powered h (f.reform (keepsSources_flowWindow s))
  case purgeFailed =>
    exact powered h (test (f.reform ((keepsSources_enterDryer ..).trans ((keepsSources_latch ..).trans
      ((keepsSources_dryer ..).trans (keepsSources_suspendWhere ..))))) f)
  case cooldownTimeout =>
    exact powered h (test (f.reform ((keepsSources_endCooldown s).trans (keepsSources_dryer ..))) f)
  case residualHoldExpiry n => exact powered h (test (f.reform (keepsSources_modLane ..)) f)
  case decelGraceExpiry n => exact powered h (f.modLane n rfl ⟨rfl, rfl, rfl, rfl, rfl, rfl⟩)
  case bandLeadTimeout n =>
    exact powered h (test (f.reform ((keepsSources_modLane ..).trans (keepsSources_latchLane ..))) f)
  case readingStale c =>
    have aged : (s.setReading c { s.reading c with ageMs := s.staleMs }).formLimit = s.formLimit := by
      unfold State.formLimit
      by_cases hc : Channel.analyzer = c
      · subst hc; rw [State.reading_setReading_same, State.setReading_cal]
      · rw [State.reading_setReading_other _ _ hc, State.setReading_cal]
    have limit : LimitFormed (s.setReading c { s.reading c with ageMs := s.staleMs }) := by
      unfold LimitFormed
      rw [aged, State.setReading_load]
      exact f.limit
    exact powered h (test (formed_reform (limitFormed_goStale limit c)
      (hornFormed_goStale ((hornFormed_setReading ..).2 f.horn) c)) f)
  case breakInputChange n level => exact powered h { f with }
  case confirmedBreak n =>
    refine powered h ?_
    dsimp only
    split
    · exact f.reform (.trans (t := s.setBreakInput n _) .of_fields (keepsSources_breakLane ..))
    · exact f
  case cadencePhaseEnd =>
    refine powered h ?_
    dsimp only
    split
    · exact f.reform ⟨rfl, rfl, rfl, id⟩
    · exact f
  case masterSilent =>
    have emptied (t : State) : KeepsSources t t.emptyQueue :=
      .foldl (fun t n => (keepsSources_removeTarget t n).trans (keepsSources_settle _ n)) _ t
    have lowered (t : State) : KeepsSources t t.lowerToCrawl :=
      .foldl (fun t n => .ite (keepsSources_decrease t n _) (.refl t)) _ t
    exact powered h (test (f.reform (.trans (t := { s with heartbeat := ⟨true, 0, true⟩ }) .of_fields
      ((keepsSources_latch ..).trans ((emptied _).trans (lowered _))))) f)
  case slotWriteDone v =>
    refine powered h ?_
    dsimp only
    split
    · exact f.reform (keepsSources_writeDone ..)
    · exact f
  case encoderEdge n gap => exact powered h (f.modLane n rfl ⟨rfl, rfl, rfl, rfl, rfl, rfl⟩)
  case flowPulse gap => exact powered h { f with }
  all_goals cases hi

/-- The figures formed, with the table and the bindings by which a profile written or retired is no lane's. -/
def FormedTable (s : State) : Prop := BoundTable s ∧ Formed s

theorem formedTable_invariant : LineInvariant FormedTable where
  port _ h := ⟨boundTable_invariant.kept h.1 (.port ..), { h.2 with }⟩
  owner body ho h := ⟨boundTable_invariant.owner ho h.1 body, h.2.owner h.1.2 ho body⟩

theorem Formed.step {s t : State} (f : Formed s) (l : BoundTable s) (h : step s = .next t) : Formed t := by
  unfold Machine.step at h
  split at h
  · cases h
    exact f.tick
  next i rest _ =>
    have waiting : FormedTable { s with pending := rest } := ⟨boundTable_invariant.kept l .of_fields, { f with }⟩
    cases hi : offLine i with
    | true => exact waiting.2.exec_offLine hi h
    | false => exact (formedTable_invariant.exec waiting hi h).2

theorem Lawful.formed {s : State} (l : Lawful s) : Formed s := { l.figures with horn := l.horn.condition }

/-- Settles O11: a step from a lawful state leaves the figures formed. -/
theorem figuresLawKept : Obligations.FiguresLawKept := fun _ _ l h =>
  (l.formed.step ⟨l.table, l.binding⟩ h).toFiguresLaw

/-! ## What the lines carry -/

theorem burnerPermit_eq_true {s : State} {n : LaneId} {z : ZoneId} : s.burnerPermit n z = true ↔
    s.dryer.state = .heating ∧ (s.lane n).state ≠ .broke ∧ (s.lane n).state ≠ .broken ∧
      (s.lane n).state ≠ .suspended ∧ (s.cuts.get n).get z = false := by
  simp [State.burnerPermit, and_assoc]

theorem Horn.line_eq_true {h : Horn} :
    h.line = true ↔ h.continuous = true ∨ ∃ c, h.cadence = some c ∧ c.on = true := by
  unfold Horn.line
  cases h.cadence <;> simp

theorem getLsbD_routineCauses {i : Nat} (h : i < 18) : routineCauses.getLsbD i = decide (6 ≤ i) := by
  interval_cases i <;> rfl

/-- The attention line is asserted exactly where a cause is latched that is urgent or not masked (R138). -/
theorem Attention.line_eq_true {a : Attention} : a.line = true ↔
    ∃ c : Cause, a.isLatched c = true ∧ (c.index < 6 ∨ a.mask.getLsbD c.index = false) := by
  have bit {i : Nat} (h : i < 18) : (a.latched &&& ~~~(a.mask &&& routineCauses)).getLsbD i = true ↔
      a.latched.getLsbD i = true ∧ (i < 6 ∨ a.mask.getLsbD i = false) := by
    rw [BitVec.getLsbD_and, BitVec.getLsbD_not, BitVec.getLsbD_and, getLsbD_routineCauses h]
    simp [h, or_comm]
  unfold Attention.line Attention.isLatched
  rw [bne_iff_ne, show (0 : BitVec 18) = 0#18 from rfl, Ne, BitVec.eq_of_getLsbD_eq_iff]
  simp only [BitVec.getLsbD_zero, not_forall, Bool.not_eq_false]
  constructor
  · rintro ⟨i, hi, h⟩
    exact ⟨causeAt i, by rw [index_causeAt hi]; exact (bit hi).1 h⟩
  · rintro ⟨c, h⟩
    exact ⟨c.index, c.index_lt, (bit c.index_lt).2 h⟩

/-- Settles O14: the lines are formed after every step, and each is what its rule says. -/
theorem outputLinesKept : Obligations.OutputLinesKept := by
  intro s t l h
  have f := l.formed.step ⟨l.table, l.binding⟩ h
  rw [f.lines]
  refine ⟨fun n => PerLane.get_form .., rfl, fun n z => ?_, ?_, Attention.line_eq_true⟩
  · show ((PerLane.form fun n => PerZone.form fun z => t.burnerPermit n z).get n).get z = true ↔ _
    rw [PerLane.get_form, PerZone.get_form]
    exact burnerPermit_eq_true
  · show t.horn.line = true ↔ _
    rw [Horn.line_eq_true, f.horn, Bool.or_eq_true, or_assoc]

end Sys2Proof.Machine
end

section
/-! PROOF. The load computer's figures: the fan demand in every dryer state (R33, R34), the required flow (R31), the
largest fitting speed (R39, R40), and the reading of the peak and of the link counts (R37, R135). -/

namespace Sys2Proof.Machine

/-! ## Quotients rounded up -/

/-- A quotient rounded up is the least whole number whose product reaches the dividend. -/
theorem ceilDiv_le_iff {a b c : Nat} (hb : 0 < b) : ceilDiv a b ≤ c ↔ a ≤ c * b := by
  have h := Nat.div_lt_iff_lt_mul (x := a + (b - 1)) (y := c + 1) hb
  rw [Nat.lt_succ_iff, Nat.succ_mul] at h
  unfold ceilDiv
  omega

theorem lt_ceilDiv_iff {a b c : Nat} (hb : 0 < b) : c < ceilDiv a b ↔ c * b < a := by
  rw [← not_le, ceilDiv_le_iff hb, not_le]

/-- Settles O16: the required flow is a quotient rounded up. -/
theorem requiredFlowLeast : Obligations.RequiredFlowLeast := by
  intro s load hc hl
  have hk : 0 < s.cal.values.cl * s.load.activeLimit := Nat.mul_pos hc hl
  refine ⟨(ceilDiv_le_iff hk).1 le_rfl, fun q => (ceilDiv_le_iff hk).2, rfl,
    Nat.le_zero.1 ((ceilDiv_le_iff hk).2 (by simp)), fun h200 hload => (ceilDiv_le_iff hk).2 ?_⟩
  calc load * 100 ≤ 105600 * 200 := by omega
    _ ≤ 105600 * (s.cal.values.cl * s.load.activeLimit) := Nat.mul_le_mul_left _ h200

/-- The load at a speed is within a budget exactly where the load in mg/min is (R26, R40). -/
theorem loadAt_le_iff {f : ProfileFields} {u b : Nat} : f.loadAt u ≤ b ↔ u * (f.arealLoad * f.width) ≤ b * 1000000 := by
  rw [Nat.mul_comm u]
  exact ceilDiv_le_iff (by decide)

/-- Settles O15: the fitting speed is the largest multiple of 5 whose load in mg/min the budget holds. -/
theorem fittingSpeedExact : Obligations.FittingSpeedExact := by
  intro f b valid hs hb
  obtain ⟨budget, rfl⟩ := Int.eq_ofNat_of_zero_le hb.le
  have hk : 0 < f.arealLoad * f.width := Nat.mul_pos hs (by have := valid.width; omega)
  have fits (u : Nat) : u ≤ budget * 1000000 / (f.arealLoad * f.width) ↔ f.loadAt u ≤ budget := by
    rw [Nat.le_div_iff_mul_le hk, loadAt_le_iff]
  set q := budget * 1000000 / (f.arealLoad * f.width) with hq
  have speed : f.fittingSpeed budget = some (floor5 q) := by
    unfold ProfileFields.fittingSpeed
    rw [if_neg (not_le.2 hb), if_neg hs.ne']
    rfl
  refine ⟨floor5 q, speed, Nat.mul_mod_left .., ?_, ?_, fun u hu => ?_⟩
  · exact Int.ofNat_le.2 ((fits _).1 (Nat.div_mul_le_self ..))
  · refine Int.ofNat_lt.2 (not_le.1 fun h => ?_)
    have := (fits _).2 h
    unfold floor5 at this
    omega
  · exact Int.ofNat_le.2 ((fits u).1 (hu.trans (Nat.div_mul_le_self ..)))

/-! ## The fan -/

/-- The three flows of a valid calibration (R150). -/
theorem CalibrationLaw.flows {s : State} (l : CalibrationLaw s) (h : s.dryer.state ≠ .off) :
    100 ≤ s.cal.values.qMax ∧ s.cal.values.qMin ≤ s.cal.values.qMax ∧
      s.cal.values.qMin ≤ s.cal.values.qPurge ∧ s.cal.values.qPurge ≤ s.cal.values.qMax := by
  have pass := l.inRange (l.validOutsideOff h)
  have qMax := calibrationTest_of_pass pass (k := 4) (by simp [Calibration.toValues])
  have qMin := calibrationTest_of_pass pass (k := 5) (by simp [Calibration.toValues])
  have qPurge := calibrationTest_of_pass pass (k := 6) (by simp [Calibration.toValues])
  simp only [calibrationTest, within_eq_true, Calibration.toValues, List.getD_cons_succ, List.getD_cons_zero,
    Nat.reduceAdd] at qMax qMin qPurge
  exact ⟨qMax.1, qMin.2, qPurge⟩

/-- Settles O13: the demand of each dryer state lies within the flows of the calibration. -/
theorem fanLaw : Obligations.FanLaw := by
  intro s l f
  have duty : s.lines.fan = s.load.fanDemand * 1023 / s.cal.values.qMax := congrArg Lines.fan f.lines
  rw [duty, f.demand, State.formDemand]
  cases hd : s.dryer.state with
  | off => simp
  | purge =>
    have := l.flows (by simp [hd])
    simp; omega
  | heating =>
    have := l.flows (by simp [hd])
    simp; omega
  | cooldown =>
    have := l.flows (by simp [hd])
    simp; omega
  | safeHold =>
    have := l.flows (by simp [hd])
    simp [Nat.mul_div_cancel_left 1023 (show 0 < s.cal.values.qMax by omega)]

/-! ## PKRD and KSTAT -/

theorem takePkrd_length {body : List Byte} (hb : body.length ≠ 1) (s : State) : takePkrd body s = (s, .badLength) := by
  unfold takePkrd
  split
  · exact absurd rfl hb
  · rfl

theorem takeKstat_length {body : List Byte} (hb : body.length ≠ 1) (s : State) :
    takeKstat body s = (s, .badLength) := by
  unfold takeKstat
  split
  · exact absurd rfl hb
  · rfl

/-- Settles O27: both requests answer with what stands, then clear by their flag. -/
theorem pkrdAndKstatReadAndClear : Obligations.PkrdAndKstatReadAndClear := by
  intro s h
  refine ⟨fun flag hf => ?_, fun flag h0 h1 => ?_, fun body hb hl => ?_⟩
  · rcases hf with rfl | rfl
    · exact ⟨h.exec_request (c := .pkrd [0]) rfl rfl (by simp) rfl,
        h.exec_request (c := .kstat [0]) rfl rfl (by simp) rfl⟩
    · exact ⟨h.exec_request (c := .pkrd [1]) rfl rfl (by simp) rfl,
        h.exec_request (c := .kstat [1]) rfl rfl (by simp) rfl⟩
  · exact ⟨h.exec_onlyAnswered rfl rfl (by simp) (by simp only [takePkrd, if_neg h0, if_neg h1]; rfl),
      h.exec_onlyAnswered rfl rfl (by simp) (by simp only [takeKstat, if_neg h0, if_neg h1]; rfl)⟩
  · exact ⟨h.exec_onlyAnswered rfl rfl hb (takePkrd_length hl _),
      h.exec_onlyAnswered rfl rfl hb (takeKstat_length hl _)⟩

end Sys2Proof.Machine
end

section
/-! PROOF. Channels that go stale together (R102, R103, R109): what each block does about them, said of the whole change
and not channel by channel. -/

namespace Sys2Proof.Machine

/-! ## The relation -/

/-- A channel that was fresh is stale. -/
def WentStale (s t : State) (c : Channel) : Prop := (s.reading c).fresh = true ∧ (t.reading c).fresh = false

/-- The in-band state of a lane with a stale zone: none for an unbound lane, else out of band (R103, R105). -/
def State.staleBand (s : State) (n : LaneId) : Option Bool := (s.lane n).key.map fun _ => false

/-- What channels that go stale do, with the dryer not in COOLDOWN: READING_STALE with its indications (R102), the lanes
of stale zones out of band (R103), the limit and the excess count. -/
structure GoneStale (s t : State) : Prop where
  fresh : ∀ c, (t.reading c).fresh = true → (s.reading c).fresh = true
  kept : ∀ n, (∀ z, ¬WentStale s t (.zone n z)) → t.lane n = s.lane n
  out : ∀ n z, WentStale s t (.zone n z) → t.lane n = (s.lane n).judged (s.staleBand n)
  attention : t.attention = { s.attention with
    latched := t.attention.latched
    sets := { s.attention.sets with readingStale := t.attention.sets.readingStale }
    staleCommon := t.attention.staleCommon }
  unlatched : (∀ c, ¬WentStale s t c) → t.attention.latched = s.attention.latched
  latched : ∀ c, WentStale s t c → t.attention.latched = s.attention.latched ||| 0x1000
  laneSet : ∀ n, t.attention.sets.readingStale &&& n.bit ≠ 0 ↔ s.attention.sets.readingStale &&& n.bit ≠ 0 ∨
    ∃ c, c.lane = some n ∧ WentStale s t c
  common : t.attention.staleCommon = true ↔ s.attention.staleCommon = true ∨ ∃ c, c.lane = none ∧ WentStale s t c
  arbiter : t.arbiter = { s.arbiter with excess := t.arbiter.excess }
  load : t.load = { s.load with activeLimit := t.load.activeLimit }
  keeps : KeepsAllBut (everyLane ++ [.readings, .attention, .arbiter, .load]) s t

theorem WentStale.irrefl {s : State} {c : Channel} : ¬WentStale s s c := fun ⟨h, h'⟩ => by rw [h] at h'; cases h'

theorem GoneStale.refl (s : State) : GoneStale s s where
  fresh _ := id
  kept _ _ := rfl
  out _ _ h := (WentStale.irrefl h).elim
  attention := rfl
  unlatched _ := rfl
  latched _ h := (WentStale.irrefl h).elim
  laneSet n := by simp [WentStale.irrefl]
  common := by simp [WentStale.irrefl]
  arbiter := rfl
  load := rfl
  keeps := .refl _ s

/-- A lane out of band stays so. -/
theorem Lane.judged_staleBand (l : Lane) (k : Option Nat) :
    (l.judged (k.map fun _ => false)).judged (k.map fun _ => false) = l.judged (k.map fun _ => false) := by
  cases k with
  | none => rfl
  | some _ =>
    by_cases h : l.state = .ready <;> simp [Lane.judged, h]

section
variable {s t u : State} (h : GoneStale s t) (h' : GoneStale t u)
include h

theorem GoneStale.key (n : LaneId) : (t.lane n).key = (s.lane n).key := by
  by_cases hz : ∀ z, ¬WentStale s t (.zone n z)
  · rw [h.kept n hz]
  · obtain ⟨z, hz⟩ := not_forall_not.1 hz
    rw [h.out n z hz, Lane.judged_key]

theorem GoneStale.staleBand (n : LaneId) : t.staleBand n = s.staleBand n := by
  unfold State.staleBand
  rw [h.key]

include h'

theorem GoneStale.wentStale_trans (c : Channel) : WentStale s u c ↔ WentStale s t c ∨ WentStale t u c := by
  have hst := h.fresh c
  have htu := h'.fresh c
  unfold WentStale
  revert hst htu
  cases (s.reading c).fresh <;> cases (t.reading c).fresh <;> cases (u.reading c).fresh <;> decide

theorem GoneStale.trans : GoneStale s u where
  fresh c := h.fresh c ∘ h'.fresh c
  kept n hz := by
    simp only [h.wentStale_trans h', not_or] at hz
    rw [h'.kept n fun z => (hz z).2, h.kept n fun z => (hz z).1]
  out n z hz := by
    by_cases hs : ∀ y, ¬WentStale s t (.zone n y)
    · rw [h'.out n z (((h.wentStale_trans h' _).1 hz).resolve_left (hs z)), h.kept n hs, h.staleBand]
    · obtain ⟨y, hy⟩ := not_forall_not.1 hs
      by_cases ht : ∀ x, ¬WentStale t u (.zone n x)
      · rw [h'.kept n ht, h.out n y hy]
      · obtain ⟨x, hx⟩ := not_forall_not.1 ht
        rw [h'.out n x hx, h.staleBand, h.out n y hy]
        exact Lane.judged_staleBand ..
  attention := by rw [h'.attention, h.attention]
  unlatched hc := by
    simp only [h.wentStale_trans h', not_or] at hc
    rw [h'.unlatched fun c => (hc c).2, h.unlatched fun c => (hc c).1]
  latched c hc := by
    by_cases hs : ∀ d, ¬WentStale s t d
    · rw [h'.latched c (((h.wentStale_trans h' c).1 hc).resolve_left (hs c)), h.unlatched hs]
    · obtain ⟨d, hd⟩ := not_forall_not.1 hs
      by_cases ht : ∀ e, ¬WentStale t u e
      · rw [h'.unlatched ht, h.latched d hd]
      · obtain ⟨e, he⟩ := not_forall_not.1 ht
        rw [h'.latched e he, h.latched d hd, BitVec.or_assoc, BitVec.or_self]
  laneSet n := by
    rw [h'.laneSet, h.laneSet, or_assoc, ← exists_or]
    simp only [h.wentStale_trans h', and_or_left]
  common := by
    rw [h'.common, h.common, or_assoc, ← exists_or]
    simp only [h.wentStale_trans h', and_or_left]
  arbiter := by rw [h'.arbiter, h.arbiter]
  load := by rw [h'.load, h.load]
  keeps := h.keeps.trans h'.keeps

end

/-! ## One channel -/

section
variable (s : State) (c : Channel)

/-- READING_STALE latched for a channel, its reading stale: the state before the blocks that use the channel act. -/
def State.toldStale : State := (s.setReading c { s.reading c with fresh := false }).latchStale c

@[simp] theorem reading_latchStale (d : Channel) : (s.latchStale c).reading d = s.reading d := by
  unfold State.latchStale
  split
  · rfl
  · cases d <;> rfl

theorem reading_toldStale_same : (s.toldStale c).reading c = { s.reading c with fresh := false } := by
  unfold State.toldStale
  rw [reading_latchStale, State.reading_setReading_same]

theorem reading_toldStale_other {d : Channel} (h : d ≠ c) : (s.toldStale c).reading d = s.reading d := by
  unfold State.toldStale
  rw [reading_latchStale, State.reading_setReading_other _ _ h]

theorem keepsAllBut_setReading (r : Reading) : KeepsAllBut [.readings] s (s.setReading c r) :=
  ⟨fun p hp => by cases p <;> simp_all [Part.same], by simp⟩

theorem keepsAllBut_attention (a : Attention) : KeepsAllBut [.attention] s { s with attention := a } :=
  ⟨fun p hp => by cases p <;> first | rfl | simp at hp, rfl⟩

theorem latchStale_eq : s.latchStale c = { s with attention := (s.latchStale c).attention } := by
  unfold State.latchStale
  split <;> rfl

theorem keepsAllBut_toldStale : KeepsAllBut [.readings, .attention] s (s.toldStale c) := by
  unfold State.toldStale
  rw [latchStale_eq]
  exact ((keepsAllBut_setReading ..).mono (by simp)).trans ((keepsAllBut_attention ..).mono (by simp))

/-- A channel fresh before is the one that has gone stale. -/
theorem wentStale_toldStale (h : (s.reading c).fresh = true) (d : Channel) : WentStale s (s.toldStale c) d ↔ d = c := by
  by_cases hd : d = c
  · subst hd
    simp [WentStale, reading_toldStale_same, h]
  · simp [WentStale, reading_toldStale_other _ _ hd, hd]

/-- A lane with a stale zone is out of band. -/
theorem zonesInBand_of_stale {n : LaneId} {z : ZoneId} (h : (s.reading (.zone n z)).fresh = false) :
    s.zonesInBand n = s.staleBand n := by
  unfold State.zonesInBand State.staleBand
  cases (s.lane n).key with
  | none => rfl
  | some k =>
    dsimp only [Option.map_some]
    split
    · rfl
    · rw [Option.some_inj, List.all_eq_false]
      exact ⟨z, by cases z <;> decide, by simp [State.zoneInBand, Reading.passes, h]⟩

/-- What is latched for a channel gone stale (R102). -/
theorem attention_toldStale : (s.toldStale c).attention =
    match c.lane with
    | some n => s.attention.latchLane .readingStale n
    | none => { s.attention.latch .readingStale with staleCommon := true } := by
  unfold State.toldStale State.latchStale
  cases c.lane with
  | some n => simp
  | none => simp

end

theorem LaneId.bit_and_ne_zero (m n : LaneId) : m.bit &&& n.bit ≠ 0 ↔ m = n := by
  cases m <;> cases n <;> decide

/-- A lane added to a lane set is in it, and every other is as it was. -/
theorem or_bit_and_ne_zero (x : BitVec 4) (m n : LaneId) : (x ||| m.bit) &&& n.bit ≠ 0 ↔ x &&& n.bit ≠ 0 ∨ m = n := by
  rw [← LaneId.bit_and_ne_zero m n, BitVec.and_comm, BitVec.and_or_distrib_left, BitVec.and_comm n.bit,
    BitVec.and_comm n.bit]
  exact BitVec.or_eq_zero_iff.not.trans not_and_or

section
variable {s t : State} {c : Channel}

/-- A channel told stale, and the lane of a zone judged by it, has gone stale. -/
theorem GoneStale.of_told (h : (s.reading c).fresh = true)
    (reading : ∀ d, t.reading d = (s.toldStale c).reading d) (attention : t.attention = (s.toldStale c).attention)
    (kept : ∀ n, (∀ z, c ≠ .zone n z) → t.lane n = s.lane n)
    (out : ∀ n z, c = .zone n z → t.lane n = (s.lane n).judged (s.staleBand n))
    (arbiter : t.arbiter = { s.arbiter with excess := t.arbiter.excess })
    (load : t.load = { s.load with activeLimit := t.load.activeLimit })
    (keeps : KeepsAllBut (everyLane ++ [.readings, .attention, .arbiter, .load]) s t) : GoneStale s t := by
  have went (d : Channel) : WentStale s t d ↔ d = c := by
    unfold WentStale
    rw [reading]
    exact wentStale_toldStale s c h d
  have latched : t.attention.latched = s.attention.latched ||| 0x1000 := by
    rw [attention, attention_toldStale]
    split <;> rfl
  refine ⟨fun d hd => ?_, fun n hn => kept n fun z e => hn z ((went _).2 e.symm),
    fun n z hz => out n z ((went _).1 hz).symm, ?_, fun hn => (hn c ((went c).2 rfl)).elim, fun _ _ => latched,
    fun n => ?_, ?_, arbiter, load, keeps⟩
  · by_cases e : d = c
    · exact e ▸ h
    · rwa [reading, reading_toldStale_other _ _ e] at hd
  · rw [attention, attention_toldStale]
    split <;> rfl
  · simp only [went, exists_eq_right]
    rw [attention, attention_toldStale]
    split
    next m hm => rw [hm, Option.some_inj]; exact or_bit_and_ne_zero ..
    next hm => simp [hm, Attention.latch]
  · simp only [went, exists_eq_right]
    rw [attention, attention_toldStale]
    split
    next m hm => simp [hm, Attention.latchLane, Attention.latch]
    next hm => simp [hm]

theorem keepsAllBut_clearExcess (s : State) : KeepsAllBut [.arbiter] s s.clearExcess := by
  unfold State.clearExcess
  split
  · exact ⟨fun p hp => by cases p <;> first | rfl | simp at hp, rfl⟩
  · exact .refl _ s

theorem arbiter_clearExcess (s : State) :
    s.clearExcess.arbiter = { s.arbiter with excess := s.clearExcess.arbiter.excess } := by
  unfold State.clearExcess
  split <;> rfl

theorem keepsAllBut_reformLimit (s : State) : KeepsAllBut [.load] s s.reformLimit :=
  ⟨fun p hp => by cases p <;> first | rfl | simp at hp, rfl⟩

/-- The channels are read from the field `readings` alone. -/
theorem reading_congr {s t : State} (h : t.readings = s.readings) (c : Channel) : t.reading c = s.reading c := by
  unfold State.reading
  rw [h]

theorem testCool_of_ne_cooldown (h : s.dryer.state ≠ .cooldown) : s.testCool = s := if_neg fun e => h e.1

/-- A fresh channel that goes stale with the dryer not in COOLDOWN. -/
theorem goneStale_goStale (h : (s.reading c).fresh = true) (hd : s.dryer.state ≠ .cooldown) :
    GoneStale s (s.goStale c) := by
  obtain ⟨told, pending⟩ := keepsAllBut_toldStale s c
  have lane (n : LaneId) : (s.toldStale c).lane n = s.lane n := told (.lane n) (by simp)
  have arbiter : (s.toldStale c).arbiter = s.arbiter := told .arbiter (by simp)
  have load : (s.toldStale c).load = s.load := told .load (by simp)
  have wide := (keepsAllBut_toldStale s c).mono (large := everyLane ++ [.readings, .attention, .arbiter, .load]) (by simp)
  have alone (hz : ∀ n z, c ≠ .zone n z) : GoneStale s (s.toldStale c) :=
    .of_told h (fun _ => rfl) rfl (fun n _ => lane n) (fun n z e => (hz n z e).elim)
      (by rw [arbiter]) (by rw [load]) wide
  cases c with
  | zone n z =>
    have dryer : (s.toldStale (.zone n z)).dryer = s.dryer := told .dryer (by simp)
    have step : s.goStale (.zone n z) = (s.toldStale (.zone n z)).settle n :=
      testCool_of_ne_cooldown (s := (s.toldStale (.zone n z)).settle n) (by rw [State.settle_dryer, dryer]; exact hd)
    rw [step]
    refine .of_told h (fun _ => rfl) rfl (fun m hm => ?_) (fun m y e => ?_) (by rw [State.settle_arbiter, arbiter])
      (by rw [State.settle_load, load]) (wide.trans ((keepsAllBut_settle _ n).mono (by simp [everyLane]; cases n <;> decide)))
    · rw [State.lane_settle_other _ fun e => hm z (by rw [e]), lane]
    · cases e
      rw [State.lane_settle_same, zonesInBand_of_stale _ (z := z) (by rw [reading_toldStale_same]), lane,
        State.staleBand, lane]
      rfl
  | webExit n => exact alone (by simp)
  | chillExit n => exact alone (by simp)
  | chillWater => exact alone (by simp)
  | analyzer =>
    have cleared : KeepsAllBut [.arbiter] (s.toldStale .analyzer).reformLimit (s.goStale .analyzer) :=
      keepsAllBut_clearExcess _
    have excess : (s.goStale .analyzer).arbiter = { s.arbiter with excess := (s.goStale .analyzer).arbiter.excess } := by
      rw [← arbiter]
      exact arbiter_clearExcess (s.toldStale .analyzer).reformLimit
    have limited := keepsAllBut_reformLimit (s.toldStale .analyzer)
    refine .of_told h (fun d => ?_) (cleared.1 .attention (by simp)) (fun n _ => ?_) (fun n z e => by cases e) excess ?_
      (wide.trans ((limited.mono (by simp)).trans (cleared.mono (by simp))))
    · exact reading_congr (cleared.1 .readings (by simp)) d
    · exact (cleared.1 (.lane n) (by simp)).trans (lane n)
    · rw [show (s.goStale .analyzer).load = (s.toldStale .analyzer).reformLimit.load from cleared.1 .load (by simp),
        ← load]
      rfl

end

end Sys2Proof.Machine
end

section
/-! PROOF. CWR (R29, R102, R113, R152): a calibration taken, its users at once, and what is refused. -/

namespace Sys2Proof.Machine

/-! ## The judgement of the ages -/

theorem reading_goStale (s : State) (c d : Channel) : (s.goStale c).reading d = (s.toldStale c).reading d := by
  have cooled (t : State) : t.testCool.readings = t.readings := by
    unfold State.testCool State.endCooldown
    split <;> simp
  have cleared (t : State) : t.clearExcess.readings = t.readings := by
    unfold State.clearExcess
    split <;> rfl
  refine reading_congr ?_ d
  cases c with
  | zone n z => exact cooled _
  | analyzer => exact cleared _
  | webExit n => rfl
  | chillExit n => rfl
  | chillWater => rfl

theorem channel_mem_all (c : Channel) : c ∈ Channel.all := by
  cases c with
  | zone n z => cases n <;> cases z <;> decide
  | webExit n => cases n <;> decide
  | chillExit n => cases n <;> decide
  | analyzer => decide
  | chillWater => decide

/-- A channel judged against the stale age in force (R102); its age stays (assumption 23). -/
def Reading.aged (r : Reading) (staleMs : Nat) : Reading :=
  if r.fresh = true ∧ staleMs ≤ r.ageMs then { r with fresh := false } else r

theorem Reading.aged_aged (r : Reading) (staleMs : Nat) : (r.aged staleMs).aged staleMs = r.aged staleMs := by
  unfold Reading.aged
  split <;> simp_all

/-- One channel judged against the stale age in force. -/
def State.judgeAge (s : State) (c : Channel) : State :=
  if (s.reading c).fresh && decide (s.staleMs ≤ (s.reading c).ageMs) then s.goStale c else s

theorem judgeAges_eq_foldl (s : State) : s.judgeAges = Channel.all.foldl State.judgeAge s := rfl

section
variable (s : State) (c : Channel)

theorem reading_judgeAge_same : (s.judgeAge c).reading c = (s.reading c).aged s.staleMs := by
  unfold State.judgeAge Reading.aged
  simp only [Bool.and_eq_true, decide_eq_true_eq]
  split
  · rw [reading_goStale, reading_toldStale_same]
  · rfl

theorem reading_judgeAge_other {d : Channel} (h : d ≠ c) : (s.judgeAge c).reading d = s.reading d := by
  unfold State.judgeAge
  split
  · rw [reading_goStale, reading_toldStale_other _ _ h]
  · rfl

theorem staleMs_judgeAge : (s.judgeAge c).staleMs = s.staleMs := by
  unfold State.judgeAge State.staleMs
  split
  · rw [(keepsRecords_goStale s c).calibration]
  · rfl

end

theorem reading_foldl_judgeAge (cs : List Channel) (s : State) (c : Channel) :
    (cs.foldl State.judgeAge s).reading c = if c ∈ cs then (s.reading c).aged s.staleMs else s.reading c := by
  induction cs generalizing s with
  | nil => rfl
  | cons d ds ih =>
    rw [List.foldl_cons, ih, staleMs_judgeAge]
    by_cases hc : c = d
    · subst hc
      rw [reading_judgeAge_same, Reading.aged_aged, ite_self, if_pos List.mem_cons_self]
    · rw [reading_judgeAge_other _ _ hc]
      simp only [List.mem_cons, hc, false_or]

/-- Every channel is judged against the stale age (R102). -/
theorem reading_judgeAges (s : State) (c : Channel) : s.judgeAges.reading c = (s.reading c).aged s.staleMs := by
  rw [judgeAges_eq_foldl, reading_foldl_judgeAge, if_pos (channel_mem_all c)]

/-- Outside COOLDOWN the judgement of the ages is a going stale of channels and nothing else. -/
theorem goneStale_judgeAges {s : State} (hd : s.dryer.state ≠ .cooldown) : GoneStale s s.judgeAges :=
  judgeAges_induction (P := GoneStale s) (fun c hc g => g.trans (goneStale_goStale hc (by
    have dryer : _ = s.dryer := g.keeps.1 .dryer (by simp [everyLane])
    rwa [dryer]))) (.refl s)

/-! ## A calibration taken -/

/-- The calibration in force, with the break inputs and the active limit judged by it (R29, R113, R152). -/
def State.calibrated (s : State) (c : Calibration) : State :=
  State.reformLimit { s with
    cal := ⟨c, true, true⟩
    breaks := PerLane.form fun n => (s.breakInput n).rejudged s.cal.values c n }

theorem takeCalibration_eq (s : State) (c : Calibration) : s.takeCalibration c = (s.calibrated c).judgeAges := rfl

theorem keepsAllBut_calibrated (s : State) (c : Calibration) : KeepsAllBut [.cal, .breaks, .load] s (s.calibrated c) :=
  ⟨fun p hp => by cases p <;> first | rfl | simp at hp, rfl⟩

theorem breakInput_calibrated (s : State) (c : Calibration) (n : LaneId) :
    (s.calibrated c).breakInput n = (s.breakInput n).rejudged s.cal.values c n := PerLane.get_form ..

/-- A break input judged afresh: its line stays, and its timer follows the change of its judgement (R113). -/
theorem rejudged_eq (b : BreakInput) (old new : Calibration) (n : LaneId) :
    b.rejudged old new n = { b with timer :=
      if (b.level == new.activeHigh.get n) = (b.level == old.activeHigh.get n) then b.timer
      else if (b.level == new.activeHigh.get n) = true then some new.confirmMs else none } := by
  unfold BreakInput.rejudged BreakInput.judged
  cases b.level == new.activeHigh.get n <;> cases b.level == old.activeHigh.get n <;> rfl

section
variable {s : State} {body : List Byte} {v : List Nat}

theorem takeCwr_wrongState (hc : s.commit = none) (hd : s.dryer.state ≠ .off) :
    takeCwr body s = (s, .wrongState) := by
  simp [takeCwr, State.committing, hc, hd]

variable (hc : s.commit = none) (hd : s.dryer.state = .off)
include hc hd

theorem takeCwr_length (hl : body.length ≠ 34) : takeCwr body s = (s, .badLength) := by
  simp [takeCwr, State.committing, hc, hd, readCalibration, hl]

theorem takeCwr_refused (hv : readCalibration body = some v) {i : Nat}
    (hf : firstFailed (calibrationTests v) = some i) : takeCwr body s = (s, .badField i) := by
  simp [takeCwr, State.committing, hc, hd, hv, hf]

theorem takeCwr_taken (hv : readCalibration body = some v) (hf : firstFailed (calibrationTests v) = none) :
    takeCwr body s = ((s.takeCalibration (.ofValues v)).reform, .done []) := by
  simp [takeCwr, State.committing, hc, hd, hv, hf]

end

/-! ## What the users see -/

theorem limitFormed_iff {s : State} : LimitFormed s ↔ s.load.activeLimit =
    if s.cal.values.analyzerFitted = true ∧ (s.reading .analyzer).fresh = true then s.cal.values.monitoredLimit
    else s.cal.values.normalLimit := by
  simp only [LimitFormed, State.formLimit, Bool.and_eq_true]

theorem not_wentStale {s t : State} {c : Channel} (h : (t.reading c).fresh = (s.reading c).fresh) : ¬WentStale s t c :=
  fun ⟨hs, ht⟩ => by rw [h, hs] at ht; cases ht

theorem staleBand_of_bound {s : State} {n : LaneId} {p : Profile} (h : s.profileOf n = some p) :
    s.staleBand n = some false := by
  unfold State.profileOf at h
  unfold State.staleBand
  cases hk : (s.lane n).key with
  | none => simp [hk] at h
  | some k => rfl

/-- A lane of stale zones keeps its speed, its key and its target. -/
theorem GoneStale.steady {s t : State} (h : GoneStale s t) (n : LaneId) :
    (t.lane n).g = (s.lane n).g ∧ (t.lane n).key = (s.lane n).key ∧ (t.lane n).target = (s.lane n).target := by
  by_cases hz : ∀ z, ¬WentStale s t (.zone n z)
  · rw [h.kept n hz]; exact ⟨rfl, rfl, rfl⟩
  · obtain ⟨z, hz⟩ := not_forall_not.1 hz
    rw [h.out n z hz]; simp

/-- The lane of a stale zone is out of band (R103). -/
theorem GoneStale.outOfBand {s t : State} (h : GoneStale s t) {n : LaneId} {z : ZoneId}
    (hz : WentStale s t (.zone n z)) {p : Profile} (hp : s.profileOf n = some p) : (t.lane n).inBand = some false ∧
      (t.lane n).state = if (s.lane n).state = .ready then .threading else (s.lane n).state := by
  rw [h.out n z hz, staleBand_of_bound hp]
  exact ⟨rfl, rfl⟩

/-- Settles O58: the block taken, and its users' judgements as one going stale of channels. -/
theorem cwrTakes : Obligations.CwrTakes := by
  intro s body h hc hb
  refine ⟨fun hd v hv => ⟨fun hf => ?_, fun i hf => ?_⟩, fun hd hl => ?_, fun hd => ?_⟩
  · have take := takeCwr_taken (s := s.taking) hc hd hv hf
    have limit : LimitFormed (s.taking.calibrated (.ofValues v)).judgeAges := limitFormed_takeCalibration ..
    have calibrated := keepsAllBut_calibrated s.taking (.ofValues v)
    have input := breakInput_calibrated s.taking (.ofValues v)
    rw [takeCalibration_eq] at take
    set u := s.taking.calibrated (.ofValues v)
    have stale : GoneStale u u.judgeAges := goneStale_judgeAges (by rw [show u.dryer.state = .off from hd]; decide)
    have reading := reading_judgeAges u
    generalize u.judgeAges = w at *
    have next := h.exec_request (c := .cwr body) rfl rfl hb take
    have cal : w.cal = ⟨.ofValues v, true, true⟩ := stale.keeps.1 .cal (by simp [everyLane])
    have breakInput (n : LaneId) : w.breakInput n = u.breakInput n := by
      unfold State.breakInput
      rw [show w.breaks = u.breaks from stale.keeps.1 .breaks (by simp [everyLane])]
    have demand : w.formDemand = 0 := by
      rw [State.formDemand, show w.dryer.state = .off from
        (congrArg Dryer.state (stale.keeps.1 .dryer (by simp [everyLane]) : w.dryer = u.dryer)).trans hd]
    refine ⟨_, next, prepareAnswer_port (t := w.reform)
      (stale.keeps.1 .port (by simp [everyLane])) .., cal, ?_, fun c => ?_, fun n => ?_, stale.steady,
      fun n hz => stale.kept n fun z => not_wentStale (hz z), fun n z hs ht p => stale.outOfBand ⟨hs, ht⟩,
      stale.attention, fun hs => stale.unlatched fun c => not_wentStale (hs c), fun c hs ht => stale.latched c ⟨hs, ht⟩,
      stale.laneSet, stale.common, stale.arbiter, ?_, rfl, ?_⟩
    · exact limitFormed_iff.1 limit
    · show w.reading c = if (s.reading c).fresh = true ∧ w.cal.values.staleAge * 1000 ≤ (s.reading c).ageMs then _ else _
      rw [reading, cal]
      rfl
    · show (w.breakInput n).level = _ ∧ (w.breakInput n).timer = if w.inputActive n = _ then _ else
        if w.inputActive n = true then some w.cal.values.confirmMs else none
      rw [State.inputActive, breakInput, input, rejudged_eq, cal]
      exact ⟨rfl, rfl⟩
    · show { w.load with fanDemand := w.formDemand } = { s.load with activeLimit := w.load.activeLimit, fanDemand := 0 }
      rw [demand, stale.load]
      rfl
    · refine keepsAllBut_answered (((calibrated.mono ?_).trans (stale.keeps.mono ?_))) ?_ ?_ ?_ .. <;> simp [everyLane]
  · exact h.exec_onlyAnswered rfl rfl hb (takeCwr_refused (s := s.taking) hc hd hv hf)
  · exact h.exec_onlyAnswered rfl rfl hb (takeCwr_length (s := s.taking) hc hd hl)
  · exact h.exec_onlyAnswered rfl rfl hb (takeCwr_wrongState (s := s.taking) hc hd)

end Sys2Proof.Machine
end

section
/-! PROOF. What an evaluation never touches, whatever it does (R35, R36, R69, R70). -/

namespace Sys2Proof.Machine

/-! ## The relation -/

/-- What an evaluation leaves of a lane record: its key, its encoder and its measured speed. -/
structure Lane.SameWeb (l m : Lane) : Prop where
  key : m.key = l.key
  measured : m.measured = l.measured
  encoder : m.encoder = l.encoder

/-- The records that change in an evaluation once the estimate is held. -/
def evaluationParts : List Part := everyLane ++ [.arbiter, .dryer, .exhaust, .attention, .horn]

/-- `t` follows from `s` within an evaluation whose estimate is held. -/
structure Evaluates (s t : State) : Prop where
  evalMs : t.arbiter.evalMs = s.arbiter.evalMs
  exhaust : t.exhaust = { s.exhaust with zeroRun := t.exhaust.zeroRun }
  lane : ∀ n, (s.lane n).SameWeb (t.lane n)
  keeps : KeepsAllBut evaluationParts s t

theorem Evaluates.refl (s : State) : Evaluates s s := ⟨rfl, rfl, fun _ => ⟨rfl, rfl, rfl⟩, .refl _ s⟩

theorem Evaluates.trans {s t u : State} (h : Evaluates s t) (h' : Evaluates t u) : Evaluates s u where
  evalMs := h'.evalMs.trans h.evalMs
  exhaust := by rw [h'.exhaust, h.exhaust]
  lane n := ⟨(h'.lane n).key.trans (h.lane n).key, (h'.lane n).measured.trans (h.lane n).measured,
    (h'.lane n).encoder.trans (h.lane n).encoder⟩
  keeps := h.keeps.trans h'.keeps

/-- An update of the other records that an evaluation changes. -/
theorem Evaluates.update (s : State) {a : Arbiter} {e : Exhaust} {d : Dryer} {c : Attention} {h : Horn}
    (ha : a.evalMs = s.arbiter.evalMs) (he : e = { s.exhaust with zeroRun := e.zeroRun }) :
    Evaluates s { s with arbiter := a, exhaust := e, dryer := d, attention := c, horn := h } :=
  ⟨ha, he, fun _ => ⟨rfl, rfl, rfl⟩,
    fun p hp => by cases p <;> first | rfl | simp [evaluationParts] at hp, rfl⟩

theorem Evaluates.modLane (s : State) (n : LaneId) {f : Lane → Lane} (h : (s.lane n).SameWeb (f (s.lane n))) :
    Evaluates s (s.modLane n f) where
  evalMs := rfl
  exhaust := rfl
  lane m := by
    by_cases hm : m = n
    · subst hm; rwa [State.lane_modLane_same]
    · rw [State.lane_modLane_other _ _ hm]; exact ⟨rfl, rfl, rfl⟩
  keeps := (keepsAllBut_modLane s n f).mono (by cases n <;> decide)

/-! ## The operations -/

theorem Steady.sameWeb {l m : Lane} (h : Steady l m) : l.SameWeb m := ⟨h.key, h.measured, h.encoder⟩

theorem evaluates_settle (s : State) (n : LaneId) : Evaluates s (s.settle n) := .modLane s n (steady_judged ..).sameWeb

theorem evaluates_removeTarget (s : State) (n : LaneId) : Evaluates s (s.removeTarget n) :=
  (Evaluates.modLane s n ⟨rfl, rfl, rfl⟩).trans (.update _ rfl rfl)

theorem evaluates_decrease (s : State) (n : LaneId) (g : Nat) : Evaluates s (s.decrease n g) :=
  (Evaluates.modLane s n (steady_decreased ..).sameWeb).trans (evaluates_settle ..)

theorem Lane.sameWeb_raised (l : Lane) (g crawl : Nat) (stamp : BitVec 16) (bands : List Band) :
    l.SameWeb (l.raised g crawl stamp bands) := by
  unfold Lane.raised Lane.leadReached
  dsimp only
  split
  · split <;> exact ⟨rfl, rfl, rfl⟩
  · exact ⟨rfl, rfl, rfl⟩

theorem evaluates_raise (s : State) (n : LaneId) (g : Nat) : Evaluates s (s.raise n g) := by
  have stamped : Evaluates s { s with arbiter := { s.arbiter with stamp := s.arbiter.stamp + 1 } } := .update s rfl rfl
  exact stamped.trans (.trans (.modLane _ n (Lane.sameWeb_raised ..)) (evaluates_settle ..))

theorem evaluates_latch (s : State) (c : Cause) : Evaluates s (s.latch c) := by
  unfold State.latch
  split
  · exact .update s rfl rfl
  · exact .update s rfl rfl

theorem evaluates_latchLane (s : State) (c : Cause) (n : LaneId) : Evaluates s (s.latchLane c n) := .update s rfl rfl

theorem evaluates_stopLane (s : State) (n : LaneId) (state : LaneState) (graceMs : Nat) :
    Evaluates s (s.stopLane n state graceMs) :=
  (evaluates_removeTarget s n).trans ((Evaluates.modLane _ n ⟨rfl, rfl, rfl⟩).trans (evaluates_settle ..))

theorem evaluates_suspendWhere (s : State) (test : LaneState → Bool) : Evaluates s (s.suspendWhere test) := by
  unfold State.suspendWhere
  induction LaneId.all generalizing s with
  | nil => exact .refl s
  | cons n ns ih =>
    rw [List.foldl_cons]
    refine .trans ?_ (ih _)
    split
    · exact evaluates_stopLane ..
    · exact .refl s

theorem evaluates_requestSafeHold (s : State) (c : HoldCause) : Evaluates s (s.requestSafeHold c) := by
  unfold State.requestSafeHold
  split
  · have entered : Evaluates s (s.enterDryer .safeHold) := .update s rfl rfl
    exact (entered.trans (evaluates_latch ..)).trans (.trans (.update _ rfl rfl) (evaluates_suspendWhere ..))
  · exact .refl s

theorem evaluates_evaluation : EvaluationRelation Evaluates where
  service :=
    { refl := .refl
      trans := .trans
      settle := fun s n _ => evaluates_settle s n
      raise := fun s n g _ _ => evaluates_raise s n g
      removeTarget := fun s n _ => evaluates_removeTarget s n
      reached := fun s n _ => evaluates_latchLane s _ n
      lead := fun s n _ _ => .modLane s n ⟨rfl, rfl, rfl⟩ }
  hotWeb :=
    { refl := .refl
      trans := .trans
      count := fun s n _ _ => .modLane s n ⟨rfl, rfl, rfl⟩
      decrease := fun s n g _ => evaluates_decrease s n g
      hot := fun s n _ => evaluates_latchLane s _ n }
  withdrawn s n := evaluates_latchLane s _ n
  excess s := .update s rfl rfl
  requestSafeHold s := evaluates_requestSafeHold s _

/-! ## The event -/

/-- The state at the start of an evaluation: the period starts again (R69). -/
def State.atEvaluation (s : State) : State := { s with arbiter := { s.arbiter with evalMs := 0 } }

section
variable {s : State} (hp : s.powered = true)
include hp

theorem exec_evaluation (hd : s.dryer.state = .heating) :
    exec .evaluation s = .next s.atEvaluation.evaluate.reform := by
  show Host.Outcome.next (if s.powered then if s.dryer.state = .heating then s.atEvaluation.evaluate.reform
    else s.atEvaluation else s) = _
  rw [if_pos hp, if_pos hd]

theorem exec_evaluation_passes (hd : s.dryer.state ≠ .heating) : exec .evaluation s = .next s.atEvaluation := by
  show Host.Outcome.next (if s.powered then if s.dryer.state = .heating then s.atEvaluation.evaluate.reform
    else s.atEvaluation else s) = _
  rw [if_pos hp, if_neg hd]

end

/-- The estimate, as R35 spells it. -/
theorem formEstimate_eq (s : State) : s.formEstimate =
    if s.totalLoad = 0 then 0 else if s.exhaust.qMeas = 0 then 999
    else min 999 ((s.totalLoad * 100 + (s.cal.values.cl * s.exhaust.qMeas - 1)) /
      (s.cal.values.cl * s.exhaust.qMeas)) := rfl

/-- What every evaluation does and leaves, whichever lanes it lowers or raises (R35, R36, R69, R70). -/
structure Evaluated (s t : State) : Prop where
  estimated : t.load.estimated = s.formEstimate
  peak : t.load.peak = max s.load.peak t.load.estimated
  limit : t.load.activeLimit = s.load.activeLimit
  evalMs : t.arbiter.evalMs = 0
  exhaust : t.exhaust = { s.exhaust with zeroRun := t.exhaust.zeroRun }
  lane : ∀ n, (s.lane n).SameWeb (t.lane n)
  keeps : KeepsAllBut (everyLane ++ [.arbiter, .load, .dryer, .exhaust, .attention, .horn, .lines]) s t

theorem evaluated_evaluate (s : State) : Evaluated s s.atEvaluation.evaluate.reform := by
  obtain ⟨evalMs, exhaust, lane, keeps⟩ := evaluates_evaluation.evaluate s.atEvaluation
  have load : s.atEvaluation.evaluate.load = s.atEvaluation.holdEstimate.load := keeps.1 .load (by decide)
  have began : KeepsAllBut (everyLane ++ [.arbiter, .load, .dryer, .exhaust, .attention, .horn, .lines]) s
      s.atEvaluation.holdEstimate := ⟨fun p hp => by cases p <;> first | rfl | simp at hp, rfl⟩
  refine ⟨congrArg LoadComputer.estimated load, ?_, ?_, evalMs, exhaust, lane,
    (began.trans (keeps.mono (by decide))).trans ((keepsAllBut_reform _).mono (by decide))⟩
  · show s.atEvaluation.evaluate.load.peak = max s.load.peak s.atEvaluation.evaluate.load.estimated
    rw [load]
    rfl
  · show s.atEvaluation.evaluate.load.activeLimit = s.load.activeLimit
    rw [load]
    rfl

end Sys2Proof.Machine
end

section
/-! PROOF. What the stages of an evaluation leave of one lane, and of the records beside the lanes (R74, R75, R76). -/

namespace Sys2Proof.Machine

/-! ## A lane that a stage does not act on -/

/-- Lane `n` and its queue entry are as they were. -/
structure Besides (n : LaneId) (s t : State) : Prop where
  lane : t.lane n = s.lane n
  entry : n ∈ t.arbiter.queue ↔ n ∈ s.arbiter.queue

section
variable {n m : LaneId} (s : State) (h : m ≠ n)

theorem Besides.refl (n : LaneId) (s : State) : Besides n s s := ⟨rfl, .rfl⟩

theorem Besides.trans {s t u : State} (h : Besides n s t) (h' : Besides n t u) : Besides n s u :=
  ⟨h'.lane.trans h.lane, h'.entry.trans h.entry⟩

theorem besides_latchLane (c : Cause) (m : LaneId) : Besides n s (s.latchLane c m) := ⟨rfl, .rfl⟩

include h

theorem besides_modLane (f : Lane → Lane) : Besides n s (s.modLane m f) := ⟨State.lane_modLane_other _ _ h.symm, .rfl⟩

theorem besides_settle : Besides n s (s.settle m) := besides_modLane s h _

theorem besides_decrease (g : Nat) : Besides n s (s.decrease m g) := ⟨State.lane_decrease_other _ _ h.symm, .rfl⟩

theorem besides_raise (g : Nat) : Besides n s (s.raise m g) := ⟨State.lane_raise_other _ _ h.symm, .rfl⟩

theorem besides_removeTarget : Besides n s (s.removeTarget m) where
  lane := State.lane_removeTarget_other _ h.symm
  entry := by simp [State.removeTarget_queue, h.symm]

end

theorem besides_service (n : LaneId) : ServiceRelation (· ≠ n) (Besides n) where
  refl := .refl n
  trans := .trans
  settle s _ h := besides_settle s h
  raise s _ g h _ := besides_raise s h g
  removeTarget s _ h := besides_removeTarget s h
  reached s m _ := besides_latchLane s _ m
  lead s _ _ h := besides_modLane s h _

theorem besides_hotWeb (n : LaneId) : HotWebRelation (· ≠ n) (Besides n) where
  refl := .refl n
  trans := .trans
  count s _ _ h := besides_modLane s h _
  decrease s _ g h := besides_decrease s h g
  hot s m _ := besides_latchLane s _ m

/-! ## The records beside the lanes -/

/-- What the stages after withdrawal leave: the dryer, what the hot-web count goes by, and the excess count; nothing
latched is lost. -/
structure Quiet (s t : State) : Prop where
  dryer : t.dryer = s.dryer
  readings : t.readings = s.readings
  profiles : t.profiles = s.profiles
  cal : t.cal = s.cal
  excess : t.arbiter.excess = s.arbiter.excess
  latched : ∀ c, s.attention.isLatched c = true → t.attention.isLatched c = true
  withdrawn : ∀ n : LaneId, s.attention.sets.withdrawn &&& n.bit ≠ 0 → t.attention.sets.withdrawn &&& n.bit ≠ 0
  hotWeb : ∀ n : LaneId, s.attention.sets.hotWeb &&& n.bit ≠ 0 → t.attention.sets.hotWeb &&& n.bit ≠ 0

theorem Quiet.refl (s : State) : Quiet s s := ⟨rfl, rfl, rfl, rfl, rfl, fun _ => id, fun _ => id, fun _ => id⟩

theorem Quiet.trans {s t u : State} (h : Quiet s t) (h' : Quiet t u) : Quiet s u :=
  ⟨h'.dryer.trans h.dryer, h'.readings.trans h.readings, h'.profiles.trans h.profiles, h'.cal.trans h.cal,
    h'.excess.trans h.excess, fun c => h'.latched c ∘ h.latched c, fun n => h'.withdrawn n ∘ h.withdrawn n,
    fun n => h'.hotWeb n ∘ h.hotWeb n⟩

/-- An update of the lanes, of the queue or of the stamps. -/
theorem Quiet.update (s : State) (lanes : PerLane Lane) {a : Arbiter} (ha : a.excess = s.arbiter.excess) :
    Quiet s { s with lanes := lanes, arbiter := a } :=
  ⟨rfl, rfl, rfl, rfl, ha, fun _ => id, fun _ => id, fun _ => id⟩

theorem quiet_latchLane (s : State) (c : Cause) (n : LaneId) : Quiet s (s.latchLane c n) where
  dryer := rfl
  readings := rfl
  profiles := rfl
  cal := rfl
  excess := rfl
  latched d h := by simp [h]
  withdrawn m h := by
    show (s.attention.sets.add c n).withdrawn &&& m.bit ≠ 0
    unfold LaneSets.add
    split <;> first | exact h | exact (or_bit_and_ne_zero ..).2 (.inl h)
  hotWeb m h := by
    show (s.attention.sets.add c n).hotWeb &&& m.bit ≠ 0
    unfold LaneSets.add
    split <;> first | exact h | exact (or_bit_and_ne_zero ..).2 (.inl h)

theorem quiet_decrease (s : State) (n : LaneId) (g : Nat) : Quiet s (s.decrease n g) := .update s _ rfl

theorem quiet_withdrawTo (s : State) (n : LaneId) (g : Nat) : Quiet s (s.withdrawTo n g) :=
  (quiet_decrease s n g).trans (quiet_latchLane ..)

theorem quiet_service : ServiceRelation (fun _ => True) Quiet where
  refl := .refl
  trans := .trans
  settle s _ _ := .update s _ rfl
  raise s _ _ _ _ := .update s _ rfl
  removeTarget s _ _ := .update s _ rfl
  reached s n _ := quiet_latchLane s _ n
  lead s _ _ _ := .update s _ rfl

theorem quiet_hotWeb : HotWebRelation (fun _ => True) Quiet where
  refl := .refl
  trans := .trans
  count s _ _ _ := .update s _ rfl
  decrease s n g _ := quiet_decrease s n g
  hot s n _ := quiet_latchLane s _ n

/-! ## Service raises and never lowers (R76) -/

/-- No lane's granted speed falls and every hot-web count stays. -/
def Raises (s t : State) : Prop := ∀ n, (s.lane n).g ≤ (t.lane n).g ∧ (t.lane n).hotWeb = (s.lane n).hotWeb

theorem Raises.refl (s : State) : Raises s s := fun _ => ⟨Nat.le_refl _, rfl⟩

theorem Raises.trans {s t u : State} (h : Raises s t) (h' : Raises t u) : Raises s u := fun n =>
  ⟨(h n).1.trans (h' n).1, (h' n).2.trans (h n).2⟩

/-- An operation on one lane that does not lower it. -/
theorem Raises.of_lane {s t : State} {n : LaneId} (other : ∀ m, m ≠ n → t.lane m = s.lane m)
    (g : (s.lane n).g ≤ (t.lane n).g) (hotWeb : (t.lane n).hotWeb = (s.lane n).hotWeb) : Raises s t := fun m => by
  by_cases h : m = n
  · subst h; exact ⟨g, hotWeb⟩
  · rw [other m h]; exact ⟨Nat.le_refl _, rfl⟩

theorem Lane.raised_g (l : Lane) (g crawl : Nat) (stamp : BitVec 16) (bands : List Band) :
    (l.raised g crawl stamp bands).g = g ∧ (l.raised g crawl stamp bands).hotWeb = l.hotWeb := by
  unfold Lane.raised Lane.leadReached
  dsimp only
  split
  · split <;> exact ⟨rfl, rfl⟩
  · exact ⟨rfl, rfl⟩

theorem raises_service : ServiceRelation (fun _ => True) Raises where
  refl := .refl
  trans := .trans
  settle s n _ := .of_lane (fun _ => State.lane_settle_other s) (by simp) (by simp)
  raise s n g _ hg := by
    have lane : (s.raise n g).lane n = ((s.lane n).raised g s.cal.values.crawl (s.arbiter.stamp + 1) (s.bandsOf n)).judged
        _ := (State.lane_settle_same ..).trans (congrArg (Lane.judged · _) (State.lane_modLane_same ..))
    refine .of_lane (fun _ => State.lane_raise_other s g) ?_ ?_
    · rw [lane, Lane.judged_g, (Lane.raised_g ..).1]; exact hg.le
    · rw [lane, Lane.judged_hotWeb, (Lane.raised_g ..).2]
  removeTarget s n _ := by
    have lane := State.lane_removeTarget_same s n
    exact .of_lane (fun _ => State.lane_removeTarget_other s) (by rw [lane]; exact Nat.le_refl _) (by rw [lane]; rfl)
  reached s _ _ := .refl s
  lead s n _ _ := .of_lane (fun _ => State.lane_modLane_other s _) (by simp) (by simp)

end Sys2Proof.Machine
end

section
/-! PROOF. The order in which RUNNING lanes are lowered (R65): the list by stamps begins with the lane that a lowering
takes first. -/

namespace Sys2Proof.Machine

/-- The place of a lane in the order of withdrawal: the highest stands first. -/
def State.rank (s : State) (n : LaneId) : Nat := (s.lane n).stamp.toNat * 5 + n.number

theorem LaneId.number_le (n : LaneId) : n.number ≤ 4 := by cases n <;> decide

theorem LaneId.number_inj {m n : LaneId} : m.number = n.number ↔ m = n := by cases m <;> cases n <;> decide

section
variable (s : State)

theorem standsBefore_iff (m n : LaneId) : StandsBefore s m n ↔ s.rank n < s.rank m := by
  have := LaneId.number_le m
  have := LaneId.number_le n
  unfold StandsBefore State.rank
  rw [← BitVec.toNat_inj]
  omega

theorem before_iff (m n : LaneId) : s.before m n = true ↔ s.rank n < s.rank m := by
  rw [← standsBefore_iff]
  simp [State.before, StandsBefore, eq_comm (a := (s.lane n).stamp)]

theorem rank_inj {m n : LaneId} (h : s.rank m = s.rank n) : m = n := by
  have := LaneId.number_le m
  have := LaneId.number_le n
  unfold State.rank at h
  exact LaneId.number_inj.1 (by omega)

theorem firstToLower_iff (n : LaneId) :
    FirstToLower s n ↔ (s.lane n).state = .running ∧ ∀ m, (s.lane m).state = .running → s.rank m ≤ s.rank n := by
  simp only [FirstToLower, standsBefore_iff]
  refine and_congr_right fun _ => ⟨fun h m hm => ?_, fun h m hn hm => ?_⟩
  · by_cases e : m = n
    · rw [e]
    · exact (h m e hm).le
  · exact Nat.lt_of_le_of_ne (h m hm) fun e => hn (rank_inj s e)

theorem FirstToLower.unique {m n : LaneId} (hm : FirstToLower s m) (hn : FirstToLower s n) : m = n := by
  rw [firstToLower_iff] at hm hn
  exact rank_inj s (Nat.le_antisymm (hn.2 m hm.1) (hm.2 n hn.1))

/-- A lane put at its place: the first is the new one or the first before it, whichever ranks higher. -/
theorem head_insertByStamp (n : LaneId) (ns : List LaneId) :
    ∃ first, (s.insertByStamp n ns).head? = some first ∧ (first = n ∨ ns.head? = some first) ∧
      s.rank n ≤ s.rank first ∧ ∀ m ∈ ns.head?, s.rank m ≤ s.rank first := by
  cases ns with
  | nil => exact ⟨n, rfl, .inl rfl, Nat.le_refl _, fun m hm => by cases hm⟩
  | cons m ms =>
    unfold State.insertByStamp
    split
    next hb => exact ⟨n, rfl, .inl rfl, Nat.le_refl _, fun k hk => by cases hk; exact ((before_iff s ..).1 hb).le⟩
    next hb =>
      rw [before_iff] at hb
      exact ⟨m, rfl, .inr rfl, Nat.le_of_not_lt hb, fun k hk => by cases hk; exact Nat.le_refl _⟩

/-- The first of lanes in the order of withdrawal is one of them, and none ranks higher. -/
theorem head_foldr_insertByStamp (ns : List LaneId) :
    (∀ first ∈ (ns.foldr s.insertByStamp []).head?, first ∈ ns) ∧
      ∀ m ∈ ns, ∃ first ∈ (ns.foldr s.insertByStamp []).head?, s.rank m ≤ s.rank first := by
  induction ns with
  | nil => simp
  | cons n ns ih =>
    obtain ⟨member, above⟩ := ih
    obtain ⟨first, head, which, hn, hrest⟩ := head_insertByStamp s n (ns.foldr s.insertByStamp [])
    rw [List.foldr_cons]
    refine ⟨fun k hk => ?_, fun m hm => ⟨first, head, ?_⟩⟩
    · cases head.symm.trans hk
      rcases which with rfl | e
      · exact List.mem_cons_self
      · exact List.mem_cons_of_mem _ (member _ e)
    · rcases List.mem_cons.1 hm with rfl | hm
      · exact hn
      · obtain ⟨k, hk, le⟩ := above m hm
        exact le.trans (hrest k hk)

/-- The list of RUNNING lanes begins with the lane that a lowering takes first. -/
theorem head_runningByStamp (n : LaneId) : s.runningByStamp.head? = some n ↔ FirstToLower s n := by
  obtain ⟨member, above⟩ := head_foldr_insertByStamp s (LaneId.all.filter fun n => (s.lane n).state == .running)
  have running (m : LaneId) :
      m ∈ LaneId.all.filter (fun n => (s.lane n).state == .running) ↔ (s.lane m).state = .running := by
    simp [show m ∈ LaneId.all by cases m <;> decide]
  simp only [running] at member above
  have first {m : LaneId} (h : s.runningByStamp.head? = some m) : FirstToLower s m :=
    (firstToLower_iff s m).2 ⟨member m h, fun k hk => by
      obtain ⟨m', hm', le⟩ := above k hk
      cases hm'.symm.trans h
      exact le⟩
  refine ⟨first, fun h => ?_⟩
  obtain ⟨m, hm, -⟩ := above n h.1
  rw [h.unique s (first hm)]
  exact hm

end

end Sys2Proof.Machine
end

section
/-! PROOF. The analyzer step and the hot-web steps, as one lane sees them (R74, R75, R49). -/

namespace Sys2Proof.Machine

/-! ## A lane lowered -/

/-- What a lowering by the arbiter makes of the record of a RUNNING lane (R49, R71). -/
structure Lane.Lowered (l m : Lane) (speed crawl graceMs : Nat) : Prop where
  g : m.g = speed
  graceMs : m.graceMs = graceMs
  lead : m.lead = none ∧ m.leadMs = 0
  target : m.target = l.target
  stamp : m.stamp = l.stamp
  running : m.state = .running ↔ crawl < speed

section
variable {l : Lane} (h : l.state = .running) (speed crawl graceMs : Nat) (b : Option Bool)

theorem Lane.decreased_hotWeb_le : ((l.decreased speed crawl graceMs).judged b).hotWeb ≤ l.hotWeb := by
  rw [Lane.judged_hotWeb]
  by_cases hl : l.state = .running ∧ speed ≤ crawl
  · rw [(Lane.decreased_leaves _ _ _ _ hl).2]; exact Nat.zero_le _
  · rw [(Lane.decreased_stays _ _ _ _ hl).2]

include h

theorem Lane.lowered_decreased : l.Lowered ((l.decreased speed crawl graceMs).judged b) speed crawl graceMs where
  g := by rw [Lane.judged_g, Lane.decreased_g]
  graceMs := by rw [Lane.judged_graceMs, Lane.decreased_graceMs]
  lead := ⟨by rw [Lane.judged_lead, Lane.decreased_lead], by rw [Lane.judged_leadMs, Lane.decreased_leadMs]⟩
  target := by rw [Lane.judged_target, Lane.decreased_target]
  stamp := by rw [Lane.judged_stamp, (steady_decreased ..).stamp]
  running := by
    rw [Lane.judged_running]
    by_cases hc : speed ≤ crawl
    · rw [(Lane.decreased_leaves _ _ _ _ ⟨h, hc⟩).1]
      simpa using hc
    · rw [(Lane.decreased_stays _ _ _ _ fun e => hc e.2).1, h]
      simpa using hc

end

/-- The hot-web count is no matter of the lowering. -/
theorem Lane.Lowered.recount {l m : Lane} {speed crawl graceMs : Nat} (h : l.Lowered m speed crawl graceMs) (k : Nat) :
    l.Lowered { m with hotWeb := k } speed crawl graceMs := ⟨h.g, h.graceMs, h.lead, h.target, h.stamp, h.running⟩

theorem Lane.Lowered.of_recounted {l m : Lane} {k speed crawl graceMs : Nat}
    (h : Lane.Lowered { l with hotWeb := k } m speed crawl graceMs) : l.Lowered m speed crawl graceMs :=
  ⟨h.g, h.graceMs, h.lead, h.target, h.stamp, h.running⟩

theorem loweredIn_of_lane {s t : State} {n : LaneId} {speed : Nat}
    (h : (s.lane n).Lowered (t.lane n) speed s.cal.values.crawl s.graceMs)
    (entry : n ∈ t.arbiter.queue ↔ n ∈ s.arbiter.queue) : LoweredIn s t n speed :=
  ⟨h.g, h.graceMs, h.lead, h.target, entry, h.stamp, h.running⟩

theorem lane_decrease_same (s : State) (n : LaneId) (g : Nat) :
    ∃ b, (s.decrease n g).lane n = ((s.lane n).decreased g s.cal.values.crawl s.graceMs).judged b := by
  unfold State.decrease
  rw [State.lane_settle_same, State.lane_modLane_same]
  exact ⟨_, rfl⟩

/-! ## The analyzer step -/

/-- The state with the analyzer excess count as the analyzer step leaves it: a count of 2 is used up (R74). -/
def State.excessUsed (s : State) : State :=
  { s with arbiter := { s.arbiter with excess := if s.arbiter.excess = 2 then 0 else s.arbiter.excess } }

section
variable {r : State × List LaneId}

theorem analyzerStep_of_ne (h : r.1.arbiter.excess ≠ 2) : State.analyzerStep r = r := if_neg h

theorem excessUsed_of_ne {s : State} (h : s.arbiter.excess ≠ 2) : s.excessUsed = s := by
  unfold State.excessUsed
  rw [if_neg h]

theorem analyzerStep_of_eq (h : r.1.arbiter.excess = 2) :
    State.analyzerStep r = match r.1.excessUsed.runningByStamp with
      | n :: _ => (r.1.excessUsed.withdrawTo n (r.1.stepDown (r.1.lane n).g), n :: r.2)
      | [] => (r.1.excessUsed, r.2) := by
  unfold State.analyzerStep State.excessUsed
  dsimp only
  rw [if_pos h, if_pos h]
  rfl

/-- The lane lowered is the RUNNING lane of the highest stamp. -/
theorem analyzerStep_lowers (h : r.1.arbiter.excess = 2) {n : LaneId} (hn : FirstToLower r.1 n) :
    State.analyzerStep r = (r.1.excessUsed.withdrawTo n (r.1.stepDown (r.1.lane n).g), n :: r.2) := by
  obtain ⟨rest, e⟩ := List.head?_eq_some_iff.1 ((head_runningByStamp r.1.excessUsed n).2 hn)
  rw [analyzerStep_of_eq h, e]

/-- No other lane is touched. -/
theorem analyzerStep_spares {n : LaneId} (hn : ¬FirstToLower r.1 n) : (State.analyzerStep r).1.lane n = r.1.lane n := by
  by_cases h : r.1.arbiter.excess = 2
  · rw [analyzerStep_of_eq h]
    split
    next m _ e =>
      have first : FirstToLower r.1 m := (head_runningByStamp r.1.excessUsed m).1 (by rw [e]; rfl)
      exact State.lane_decrease_other r.1.excessUsed _ fun e => hn (e ▸ first)
    next => rfl
  · rw [analyzerStep_of_ne h]

theorem quiet_analyzerStep : Quiet r.1.excessUsed (State.analyzerStep r).1 := by
  by_cases h : r.1.arbiter.excess = 2
  · rw [analyzerStep_of_eq h]
    split
    · exact quiet_withdrawTo ..
    · exact .refl _
  · rw [analyzerStep_of_ne h, excessUsed_of_ne h]
    exact .refl _

end

/-! ## The hot-web count (R75) -/

section
variable {s : State} {n : LaneId}

theorem webTooHot_iff : WebTooHot s n ↔
    (s.reading (.chillExit n)).passes (fun v => ((s.runningBand n).chillExitMax : Int) + 5 < v) = true := by
  unfold WebTooHot Reading.passes State.runningBand
  rw [Bool.and_eq_true]
  refine and_congr_right fun _ => ?_
  cases (s.reading (.chillExit n)).value <;> simp

theorem hotWebCount_of_stale (h : (s.reading (.chillExit n)).fresh = false) : s.hotWebCount n = (s.lane n).hotWeb := by
  unfold State.hotWebCount
  dsimp only
  rw [h]
  rfl

theorem hotWebCount_of_cool (h : (s.reading (.chillExit n)).fresh = true) (hn : ¬WebTooHot s n) : s.hotWebCount n = 0 := by
  rw [webTooHot_iff] at hn
  unfold State.hotWebCount
  dsimp only
  rw [if_pos h, if_neg hn]

theorem hotWebCount_of_hot (h : WebTooHot s n) : s.hotWebCount n = (s.lane n).hotWeb + 1 := by
  have fresh := h.1
  rw [webTooHot_iff] at h
  unfold State.hotWebCount
  dsimp only
  rw [if_pos fresh, if_pos h]

theorem hotWebCount_le_of_not_hot (h : ¬WebTooHot s n) : s.hotWebCount n ≤ (s.lane n).hotWeb := by
  cases hf : (s.reading (.chillExit n)).fresh with
  | false => exact (hotWebCount_of_stale hf).le
  | true => rw [hotWebCount_of_cool hf h]; exact Nat.zero_le _

theorem hotWebCount_le : s.hotWebCount n ≤ (s.lane n).hotWeb + 1 := by
  by_cases h : WebTooHot s n
  · exact (hotWebCount_of_hot h).le
  · exact (hotWebCount_le_of_not_hot h).trans (Nat.le_succ _)

theorem hotWebCount_congr {t : State} (lane : t.lane n = s.lane n) (readings : t.readings = s.readings)
    (profiles : t.profiles = s.profiles) : t.hotWebCount n = s.hotWebCount n := by
  unfold State.hotWebCount State.runningBand State.bandsOf State.profileOf
  rw [lane, reading_congr readings, profiles]

end

/-! ## The hot-web stage -/

section
variable {r : State × List LaneId} {n : LaneId}

theorem hotWebStep_still (h : (r.1.lane n).state ≠ .running) : State.hotWebStep r n = r := if_neg h

theorem hotWebStep_counts (h : (r.1.lane n).state = .running) (hk : r.1.hotWebCount n < 10) :
    State.hotWebStep r n = (r.1.modLane n fun l => { l with hotWeb := r.1.hotWebCount n }, r.2) := by
  unfold State.hotWebStep
  dsimp only
  rw [if_pos h, if_neg (Nat.not_le.2 hk)]

theorem hotWebStep_lowers (h : (r.1.lane n).state = .running) (hk : 10 ≤ r.1.hotWebCount n) :
    State.hotWebStep r n =
      (((r.1.modLane n fun l => { l with hotWeb := 0 }).decrease n (r.1.stepDown (r.1.lane n).g)).latchLane .hotWeb n,
        n :: r.2) := by
  unfold State.hotWebStep
  dsimp only
  rw [if_pos h, if_pos hk, State.lane_modLane_same]
  rfl

end

/-- A stage that acts on lanes other than `n` alone: the lane, what its hot-web count goes by, and whether it is listed
as lowered. -/
structure Apart (n : LaneId) (r r' : State × List LaneId) : Prop extends Besides n r.1 r'.1 where
  quiet : Quiet r.1 r'.1
  listed : n ∈ r'.2 ↔ n ∈ r.2

theorem Apart.trans {n : LaneId} {r r' r'' : State × List LaneId} (h : Apart n r r') (h' : Apart n r' r'') :
    Apart n r r'' := ⟨h.toBesides.trans h'.toBesides, h.quiet.trans h'.quiet, h'.listed.trans h.listed⟩

theorem apart_hotWebStep {n m : LaneId} (r : State × List LaneId) (h : m ≠ n) : Apart n r (State.hotWebStep r m) where
  toBesides := (besides_hotWeb n).hotWebStep r h
  quiet := quiet_hotWeb.hotWebStep r trivial
  listed := by
    unfold State.hotWebStep
    dsimp only
    split
    · split
      · simp [h.symm]
      · rfl
    · rfl

theorem apart_hotWebSteps {n : LaneId} (ns : List LaneId) (h : n ∉ ns) (r : State × List LaneId) :
    Apart n r (ns.foldl State.hotWebStep r) := by
  induction ns generalizing r with
  | nil => exact ⟨.refl n _, .refl _, .rfl⟩
  | cons m ns ih =>
    obtain ⟨hm, hns⟩ := not_or.1 (List.mem_cons.not.1 h)
    exact (apart_hotWebStep r (Ne.symm hm)).trans (ih hns _)

/-- The hot-web stage examines a lane once, as it was before the stage, and leaves it as the step on it made it. -/
theorem hotWebStage_at (r : State × List LaneId) (n : LaneId) :
    ∃ u, Apart n r u ∧ Apart n (State.hotWebStep u n) (LaneId.all.foldl State.hotWebStep r) := by
  have parted : ∃ before after, LaneId.all = before ++ n :: after ∧ n ∉ before ∧ n ∉ after := by
    cases n with
    | one => exact ⟨[], [.two, .three, .four], by decide⟩
    | two => exact ⟨[.one], [.three, .four], by decide⟩
    | three => exact ⟨[.one, .two], [.four], by decide⟩
    | four => exact ⟨[.one, .two, .three], [], by decide⟩
  obtain ⟨before, after, all, hb, ha⟩ := parted
  rw [all, List.foldl_append, List.foldl_cons]
  exact ⟨_, apart_hotWebSteps before hb r, apart_hotWebSteps after ha _⟩

section
variable {r : State × List LaneId} {n : LaneId}

/-- A lane whose count stays below 10 is not lowered: its count may change and nothing else of it. -/
theorem hotWebStage_counts (hk : r.1.hotWebCount n < 10) :
    Besides n (r.1.modLane n fun l => { l with
        hotWeb := if l.state = .running then r.1.hotWebCount n else l.hotWeb })
      (LaneId.all.foldl State.hotWebStep r).1 ∧ (n ∈ (LaneId.all.foldl State.hotWebStep r).2 ↔ n ∈ r.2) := by
  obtain ⟨u, before, after⟩ := hotWebStage_at r n
  have count : u.1.hotWebCount n = r.1.hotWebCount n :=
    hotWebCount_congr before.lane before.quiet.readings before.quiet.profiles
  by_cases h : (r.1.lane n).state = .running
  · rw [hotWebStep_counts (before.lane ▸ h) (count ▸ hk)] at after
    refine ⟨⟨?_, after.entry.trans before.entry⟩, after.listed.trans before.listed⟩
    rw [after.lane, State.lane_modLane_same, State.lane_modLane_same, before.lane, count, if_pos h]
  · rw [hotWebStep_still (before.lane ▸ h)] at after
    refine ⟨⟨?_, after.entry.trans before.entry⟩, after.listed.trans before.listed⟩
    rw [after.lane, State.lane_modLane_same, before.lane, if_neg h]

/-- A lane whose count comes to 10 is lowered by one ramp step and told HOT_WEB, its count at 0 again. -/
theorem hotWebStage_lowers (h : (r.1.lane n).state = .running) (hk : 10 ≤ r.1.hotWebCount n) :
    let t := (LaneId.all.foldl State.hotWebStep r).1
    (r.1.lane n).Lowered (t.lane n) (r.1.stepDown (r.1.lane n).g) r.1.cal.values.crawl r.1.graceMs ∧
      (t.lane n).hotWeb = 0 ∧ (n ∈ t.arbiter.queue ↔ n ∈ r.1.arbiter.queue) ∧
      t.attention.isLatched .hotWeb = true ∧ t.attention.sets.hotWeb &&& n.bit ≠ 0 ∧
      n ∈ (LaneId.all.foldl State.hotWebStep r).2 := by
  obtain ⟨u, before, after⟩ := hotWebStage_at r n
  have count : u.1.hotWebCount n = r.1.hotWebCount n :=
    hotWebCount_congr before.lane before.quiet.readings before.quiet.profiles
  rw [hotWebStep_lowers (before.lane ▸ h) (count ▸ hk)] at after
  obtain ⟨b, lane⟩ := lane_decrease_same (u.1.modLane n fun l => { l with hotWeb := 0 }) n (u.1.stepDown (u.1.lane n).g)
  have reached : (LaneId.all.foldl State.hotWebStep r).1.lane n =
      (({ r.1.lane n with hotWeb := 0 } : Lane).decreased (r.1.stepDown (r.1.lane n).g) r.1.cal.values.crawl
        r.1.graceMs).judged b := by
    rw [after.lane, State.lane_latchLane, lane, State.lane_modLane_same, State.modLane_cal]
    unfold State.graceMs State.stepDown
    rw [State.modLane_cal, before.quiet.cal, before.lane]
  refine ⟨?_, ?_, after.entry.trans before.entry, after.quiet.latched _ (by simp),
    after.quiet.hotWeb n ((or_bit_and_ne_zero ..).2 (.inr rfl)), after.listed.2 List.mem_cons_self⟩
  · rw [reached]
    exact (Lane.lowered_decreased (l := { r.1.lane n with hotWeb := 0 }) h ..).of_recounted
  · rw [reached]
    exact Nat.le_zero.1 (Lane.decreased_hotWeb_le ..)

end

end Sys2Proof.Machine
end

section
/-! PROOF. An evaluation whose load fits, stage after stage, and the obligation on EVALUATION (R35, R36, R69, R70, R73,
R74, R75). -/

namespace Sys2Proof.Machine

/-! ## The stages -/

theorem withdraw_of_fits {s : State} {capacity : Nat} (h : s.totalLoad ≤ capacity) (ns lowered : List LaneId) :
    State.withdraw capacity ns (s, lowered) = (s, lowered) := by
  cases ns with
  | nil => rfl
  | cons => exact if_pos h

/-- An evaluation whose load fits after its analyzer step. -/
def State.toHotWeb (s : State) : State × List LaneId := State.analyzerStep (s.atEvaluation.holdEstimate, [])

/-- An evaluation whose load fits after its hot-web steps. -/
def State.toService (s : State) : State × List LaneId := LaneId.all.foldl State.hotWebStep s.toHotWeb

section
variable {s : State} (h : s.totalLoad ≤ s.capacity)
include h

theorem evaluate_of_fits : s.atEvaluation.evaluate = State.serviceStage s.capacity s.toService := by
  have fits : s.atEvaluation.holdEstimate.totalLoad ≤ s.atEvaluation.holdEstimate.capacity := h
  unfold State.evaluate
  dsimp only
  rw [withdraw_of_fits fits, if_neg (Nat.not_lt.2 fits)]
  rfl

theorem quiet_toHotWeb : Quiet s.toHotWeb.1 s.atEvaluation.evaluate := by
  rw [evaluate_of_fits h]
  exact (quiet_hotWeb.hotWebSteps s.toHotWeb LaneId.all fun _ _ => trivial).trans
    (quiet_service.serviceStage _ s.toService fun _ _ => trivial)

theorem raises_toService : Raises s.toService.1 s.atEvaluation.evaluate := by
  rw [evaluate_of_fits h]
  exact raises_service.serviceStage _ s.toService fun _ _ => trivial

/-- A lane lowered in the evaluation is passed over by service (R76). -/
theorem besides_toService {n : LaneId} (hn : n ∈ s.toService.2) : Besides n s.toService.1 s.atEvaluation.evaluate := by
  rw [evaluate_of_fits h]
  exact (besides_service n).serviceStage _ s.toService fun m hm e => hm (e ▸ hn)

/-- The dryer stays, and of the excess count a 2 is used up (R73, R74). -/
theorem evaluate_dryer_excess : s.atEvaluation.evaluate.dryer = s.dryer ∧
    s.atEvaluation.evaluate.arbiter.excess = if s.arbiter.excess = 2 then 0 else s.arbiter.excess :=
  have quiet := quiet_analyzerStep.trans (quiet_toHotWeb h)
  ⟨quiet.dryer, quiet.excess⟩

end

/-! ## With the excess count at 2 -/

section
variable {s : State} (h : s.totalLoad ≤ s.capacity) (excess : s.arbiter.excess = 2)
include excess

theorem toHotWeb_lowers {n : LaneId} (hn : FirstToLower s n) : s.toHotWeb =
    (s.atEvaluation.holdEstimate.excessUsed.withdrawTo n (s.stepDown (s.lane n).g), [n]) :=
  analyzerStep_lowers (r := (s.atEvaluation.holdEstimate, [])) excess hn

theorem lane_toHotWeb_lowered {n : LaneId} (hn : FirstToLower s n) : ∃ b, s.toHotWeb.1.lane n =
    ((s.lane n).decreased (s.stepDown (s.lane n).g) s.cal.values.crawl s.graceMs).judged b := by
  rw [toHotWeb_lowers excess hn]
  exact lane_decrease_same s.atEvaluation.holdEstimate.excessUsed n _

omit excess in
theorem lane_toHotWeb_spared {n : LaneId} (hn : ¬FirstToLower s n) : s.toHotWeb.1.lane n = s.lane n :=
  analyzerStep_spares (r := (s.atEvaluation.holdEstimate, [])) hn

/-- No count comes to 10 that was below 9, lowered or not. -/
theorem hotWebCount_toHotWeb_lt {n : LaneId} (hw : (s.lane n).hotWeb < 9) : s.toHotWeb.1.hotWebCount n < 10 := by
  have kept : (s.toHotWeb.1.lane n).hotWeb ≤ (s.lane n).hotWeb := by
    by_cases hn : FirstToLower s n
    · obtain ⟨b, lane⟩ := lane_toHotWeb_lowered excess hn
      rw [lane]
      exact Lane.decreased_hotWeb_le ..
    · rw [lane_toHotWeb_spared hn]
  have := hotWebCount_le (s := s.toHotWeb.1) (n := n)
  omega

include h

/-- The RUNNING lane of the highest stamp is lowered by one ramp step, not below crawl, with WITHDRAWN (R74). -/
theorem evaluate_lowers_first {n : LaneId} (hw : (s.lane n).hotWeb < 9) (hn : FirstToLower s n) :
    LoweredIn s s.atEvaluation.evaluate n (s.stepDown (s.lane n).g) ∧
      s.atEvaluation.evaluate.attention.isLatched .withdrawn = true ∧
      s.atEvaluation.evaluate.attention.sets.withdrawn &&& n.bit ≠ 0 := by
  obtain ⟨counted, listed⟩ := hotWebStage_counts (hotWebCount_toHotWeb_lt excess hw)
  have quiet := quiet_toHotWeb h
  obtain ⟨b, lane⟩ := lane_toHotWeb_lowered excess hn
  have step := toHotWeb_lowers excess hn
  have served := besides_toService h (listed.2 (by rw [step]; exact List.mem_cons_self))
  have after := counted.trans served
  refine ⟨loweredIn_of_lane ?_ (after.entry.trans ?_), quiet.latched _ ?_, quiet.withdrawn n ?_⟩
  · rw [after.lane, State.lane_modLane_same, lane]
    exact (Lane.lowered_decreased hn.1 ..).recount _
  · rw [step]; rfl
  · rw [step]; simp [State.withdrawTo]
  · rw [step]; exact (or_bit_and_ne_zero ..).2 (.inr rfl)

/-- No other lane is lowered. -/
theorem evaluate_spares_others {n : LaneId} (hw : (s.lane n).hotWeb < 9) (hn : ¬FirstToLower s n) :
    (s.lane n).g ≤ (s.atEvaluation.evaluate.lane n).g := by
  obtain ⟨counted, -⟩ := hotWebStage_counts (hotWebCount_toHotWeb_lt excess hw)
  refine Nat.le_trans ?_ (raises_toService h n).1
  rw [show s.toService.1.lane n = _ from counted.lane, State.lane_modLane_same, lane_toHotWeb_spared hn]

end

/-! ## With the excess count at 0 or 1 -/

section
variable {s : State} (h : s.totalLoad ≤ s.capacity) (excess : s.arbiter.excess ≠ 2) {n : LaneId}
  (running : (s.lane n).state = .running)
include excess

theorem toHotWeb_of_ne : s.toHotWeb = (s.atEvaluation.holdEstimate, []) := analyzerStep_of_ne excess

include h running

/-- A lane whose hot-web count stays below 10 takes the count and is not lowered (R75). -/
theorem evaluate_counts (hk : s.hotWebCount n < 10) :
    (s.atEvaluation.evaluate.lane n).hotWeb = s.hotWebCount n ∧ (s.lane n).g ≤ (s.atEvaluation.evaluate.lane n).g := by
  have same := toHotWeb_of_ne excess
  obtain ⟨counted, -⟩ := hotWebStage_counts (r := s.toHotWeb) (n := n) (by rw [same]; exact hk)
  have lane : s.toService.1.lane n = { s.lane n with hotWeb := s.hotWebCount n } := by
    rw [show s.toService.1.lane n = _ from counted.lane, State.lane_modLane_same, same]
    exact congrArg (fun k => { s.lane n with hotWeb := k }) (if_pos running)
  obtain ⟨g, hotWeb⟩ := raises_toService h n
  rw [lane] at g hotWeb
  exact ⟨hotWeb, g⟩

/-- A lane whose hot-web count comes to 10 is lowered by one ramp step, not below crawl, with HOT_WEB (R75). -/
theorem evaluate_lowers_hot (hk : 10 ≤ s.hotWebCount n) :
    (s.atEvaluation.evaluate.lane n).hotWeb = 0 ∧
      LoweredIn s s.atEvaluation.evaluate n (s.stepDown (s.lane n).g) ∧
      s.atEvaluation.evaluate.attention.isLatched .hotWeb = true ∧
      s.atEvaluation.evaluate.attention.sets.hotWeb &&& n.bit ≠ 0 := by
  have same := toHotWeb_of_ne excess
  obtain ⟨lowered, hotWeb, entry, latched, inSet, listed⟩ :=
    hotWebStage_lowers (r := s.toHotWeb) (n := n) (by rw [same]; exact running) (by rw [same]; exact hk)
  have served := besides_toService h listed
  have quiet := evaluate_of_fits h ▸ quiet_service.serviceStage s.capacity s.toService fun _ _ => trivial
  rw [← State.toService] at lowered hotWeb entry latched inSet
  rw [same] at lowered entry
  exact ⟨by rw [served.lane, hotWeb], loweredIn_of_lane (by rw [served.lane]; exact lowered) (served.entry.trans entry),
    quiet.latched _ latched, quiet.hotWeb n inSet⟩

end

/-! ## The obligation -/

theorem LoweredIn.reform {s t : State} {n : LaneId} {speed : Nat} (h : LoweredIn s t n speed) :
    LoweredIn s t.reform n speed := ⟨h.g, h.grace, h.lead, h.target, h.entry, h.stamp, h.running⟩

/-- Settles O45: the figures hold by the walk over the evaluation; where the load fits, the analyzer step takes the lane
first in the order of withdrawal, each hot-web step its own lane, and service passes over the lanes they lowered. -/
theorem evaluationFigures : Obligations.EvaluationFigures := by
  refine ⟨fun s hp => ⟨fun hd => ?_, exec_evaluation_passes hp⟩, fun s l hp hd fits => ⟨_, exec_evaluation hp hd, ?_⟩⟩
  · have done := evaluated_evaluate s
    exact ⟨_, exec_evaluation hp hd, done.estimated.trans (formEstimate_eq s), done.peak, done.limit, done.evalMs,
      done.exhaust, fun n => ⟨(done.lane n).key, (done.lane n).measured, (done.lane n).encoder⟩, done.keeps⟩
  · obtain ⟨dryer, used⟩ := evaluate_dryer_excess fits
    have first := fun excess n => evaluate_lowers_first fits excess (n := n)
    have others := fun excess n => evaluate_spares_others fits excess (n := n)
    have counts := fun excess n => evaluate_counts fits excess (n := n)
    have lowers := fun excess n => evaluate_lowers_hot fits excess (n := n)
    generalize s.atEvaluation.evaluate = w at dryer used first others counts lowers ⊢
    refine ⟨dryer, used, fun excess cool => ⟨fun n hn => ?_, fun n hn => others excess n (cool n) hn⟩,
      fun excess n running => ?_⟩
    · obtain ⟨lowered, latched⟩ := first excess n (cool n) hn
      exact ⟨lowered.reform, latched⟩
    · obtain ⟨-, bound, -⟩ := l.lane.counts n
      replace counts := counts excess n running
      refine ⟨fun stale => ?_, fun fresh cool => ?_, fun hot below => ?_, fun hot above => ?_, fun spared => ?_⟩
      · have count := hotWebCount_of_stale stale
        exact (counts (by omega)).1.trans count
      · have count := hotWebCount_of_cool fresh cool
        exact (counts (by omega)).1.trans count
      · have count := hotWebCount_of_hot hot
        exact (counts (by omega)).1.trans count
      · have count := hotWebCount_of_hot hot
        obtain ⟨zero, lowered, latched⟩ := lowers excess n running (by omega)
        exact ⟨zero, lowered.reform, latched⟩
      · refine (counts ?_).2
        rcases spared with cool | below
        · have := hotWebCount_le_of_not_hot cool
          omega
        · have := hotWebCount_le (s := s) (n := n)
          omega

end Sys2Proof.Machine
end

section
/-! PROOF. What a lane record obeys at every moment: the granted speed (R44), the record of each state (R43, R54, R55,
R62), the pending target with its entry and lead (R50, R64), and the in-band state (R47, R79, R105); and which changes of
the record keep that. -/

namespace Sys2Proof.Machine

/-! ## Bands and speeds -/

/-- The bounds of a band list as the field tests leave them (R3); a lane without a profile has no band. -/
structure BandsLaw (bands : List Band) : Prop where
  bounds : ∀ b ∈ bands, 60 ≤ b.bound ∧ b.bound % 5 = 0
  ascend : bands.Pairwise fun a b => a.bound < b.bound

theorem ValidFields.bandsLaw {f : ProfileFields} (v : ValidFields f) : BandsLaw f.bands :=
  ⟨fun b hb => ⟨(v.bounds b hb).1, (v.bounds b hb).2.2⟩, v.boundsAscend⟩

theorem bandsLaw_nil : BandsLaw [] := ⟨fun _ h => (List.not_mem_nil h).elim, .nil⟩

theorem maxSpeed_cons_cons (a b : Band) (bs : List Band) : maxSpeed (a :: b :: bs) = maxSpeed (b :: bs) := by
  simp [maxSpeed]

theorem bandOf_pos (bands : List Band) (v : Nat) : 1 ≤ bandOf bands v := by
  unfold bandOf
  split
  · exact le_refl _
  · exact le_refl _
  · split <;> omega

theorem bandOf_cons (b c : Band) (bs : List Band) (v : Nat) :
    bandOf (b :: c :: bs) v = if v ≤ b.bound then 1 else bandOf (c :: bs) v + 1 := rfl

theorem boundOf_cons (b c : Band) (bs : List Band) (v : Nat) :
    boundOf (b :: c :: bs) v = if v ≤ b.bound then b.bound else boundOf (c :: bs) v := by
  have pos := bandOf_pos (c :: bs) v
  unfold boundOf bandAt
  rw [bandOf_cons]
  split
  · rfl
  · obtain ⟨k, hk⟩ := Nat.exists_eq_add_of_le' pos
    rw [hk]
    rfl

section
variable {bands : List Band} (w : BandsLaw bands)
include w

theorem BandsLaw.maxSpeed_mod : maxSpeed bands % 5 = 0 := by
  unfold maxSpeed
  cases h : bands.getLast? with
  | none => rfl
  | some b => exact (w.bounds b (List.mem_of_getLast? h)).2

theorem BandsLaw.bandAt_mod (k : Nat) : (bandAt bands k).bound % 5 = 0 := by
  unfold bandAt
  rw [List.getD_eq_getElem?_getD]
  cases h : bands[k - 1]? with
  | none => rfl
  | some b => exact (w.bounds b (List.mem_of_getElem? h)).2

end

/-- A speed within the maximum lies within the bound of its band (R4). -/
theorem le_boundOf {bands : List Band} {v : Nat} (h : v ≤ maxSpeed bands) : v ≤ boundOf bands v := by
  induction bands with
  | nil => exact h
  | cons b bs ih =>
    cases bs with
    | nil => exact h
    | cons c bs =>
      rw [boundOf_cons]
      split
      · assumption
      · exact ih (maxSpeed_cons_cons b c bs ▸ h)

/-- A speed at the bound of its band and below the maximum is not in the last band (R78). -/
theorem bandOf_lt_length {bands : List Band} {v : Nat} (hv : v = boundOf bands v) (h : v < maxSpeed bands) :
    bandOf bands v < bands.length := by
  induction bands with
  | nil => exact absurd h (Nat.not_lt_zero _)
  | cons b bs ih =>
    cases bs with
    | nil => exact absurd (show v = maxSpeed [b] from hv) h.ne
    | cons c bs =>
      rw [boundOf_cons] at hv
      rw [bandOf_cons]
      split
      · simp
      next hb =>
        rw [if_neg hb] at hv
        exact Nat.succ_lt_succ (ih hv (maxSpeed_cons_cons b c bs ▸ h))

/-- Every speed up to 60 m/min is in the first band (R3). -/
theorem BandsLaw.bandOf_low {bands : List Band} (w : BandsLaw bands) {v : Nat} (hv : v ≤ 60) : bandOf bands v = 1 := by
  match bands, w with
  | [], _ => rfl
  | [_], _ => rfl
  | b :: c :: bs, w =>
    have := (w.bounds b List.mem_cons_self).1
    rw [bandOf_cons, if_pos (by omega)]

theorem floor5_mod (v : Nat) : floor5 v % 5 = 0 := by unfold floor5; omega

theorem ProfileFields.fittingSpeed_mod {f : ProfileFields} (w : BandsLaw f.bands) {b : Int} {u : Nat}
    (h : f.fittingSpeed b = some u) : u % 5 = 0 := by
  unfold ProfileFields.fittingSpeed at h
  split at h
  · cases h
  · split at h <;> cases h
    · exact w.maxSpeed_mod
    · exact floor5_mod _

/-! ## The laws of one lane record -/

/-- The granted speed of a lane (R44) and what its record holds in each state (R43, R54, R55, R58, R62), beside the bands
of its profile, the crawl speed, and whether the dryer heats. -/
structure Lane.Paced (l : Lane) (bands : List Band) (crawl : Nat) (heating : Prop) : Prop where
  keyed : l.key = none ↔ l.state = .unthreaded
  step : l.g % 5 = 0
  atMostMax : l.g ≤ maxSpeed bands
  stopped : l.state.moving = false → l.g = 0
  onlyHeating : ¬heating → l.g = 0
  crawling : l.state = .threading ∨ l.state = .ready → l.g ≤ crawl
  running : l.state = .running → crawl < l.g
  hold : l.residual ≠ none → l.state = .broke ∨ l.state = .suspended
  broke : l.state = .broke → l.residual ≠ none
  unjudged : l.state.moving = false → l.overspeed = false ∧ l.overCount = 0
  hotWeb : l.state ≠ .running → l.hotWeb = 0
  counts : l.overCount ≤ 2 ∧ l.hotWeb ≤ 9 ∧ l.measured ≤ 1500

/-- The pending target of a lane with its queue entry and its lead (R50, R64). -/
structure Lane.Aimed (l : Lane) (bands : List Band) (heating queued : Prop) : Prop where
  target : queued ↔ l.target ≠ none
  moving : queued → l.state.moving = true
  above : ∀ t, l.target = some t → l.g < t ∧ t % 5 = 0 ∧ t ≤ maxSpeed bands
  heats : queued → heating
  lead : ∀ d, l.lead = some d → queued ∧ bandOf bands l.g < d.band ∧ d.band ≤ bands.length

/-- The in-band state of a lane agrees with its zones, and its state and lead with that (R47, R79, R105). -/
structure Lane.Banded (l : Lane) (zones : Option Bool) : Prop where
  formed : l.inBand = zones
  threading : l.state = .threading → l.inBand ≠ some true
  ready : l.state = .ready → l.inBand = some true
  leading : l.isLeading = true → l.inBand ≠ some true

theorem Lane.aimless {l : Lane} {bands : List Band} {heating queued : Prop} (hq : ¬queued) (ht : l.target = none)
    (hl : l.lead = none) : l.Aimed bands heating queued where
  target := iff_of_false hq fun h => h ht
  moving h := absurd h hq
  above t h := by rw [ht] at h; cases h
  heats h := absurd h hq
  lead d h := by rw [hl] at h; cases h

section
variable {l : Lane} {bands : List Band} {crawl : Nat} {heating queued : Prop}

/-! ## Judgements -/

theorem Lane.Paced.judged (h : l.Paced bands crawl heating) (b : Option Bool) :
    (l.judged b).Paced bands crawl heating := by
  have state := l.judged_state b
  constructor <;> simp only [Lane.judged_key, Lane.judged_g, Lane.judged_moving, Lane.judged_residual,
    Lane.judged_overspeed, Lane.judged_overCount, Lane.judged_hotWeb, Lane.judged_measured]
  case atMostMax => exact h.atMostMax
  case step => exact h.step
  case stopped => exact h.stopped
  case onlyHeating => exact h.onlyHeating
  case unjudged => exact h.unjudged
  case counts => exact h.counts
  all_goals
    have := h.keyed; have := h.crawling; have := h.running; have := h.hold; have := h.broke; have := h.hotWeb
    rcases state with e | ⟨e, -, e'⟩ | ⟨e, -, e'⟩ <;> simp_all

theorem Lane.Aimed.judged (h : l.Aimed bands heating queued) (b : Option Bool) :
    (l.judged b).Aimed bands heating queued where
  target := by rw [Lane.judged_target]; exact h.target
  moving := by rw [Lane.judged_moving]; exact h.moving
  above := by rw [Lane.judged_target, Lane.judged_g]; exact h.above
  heats := h.heats
  lead d hd := by
    have band : l.lead.map (·.band) = some d.band := by rw [← Lane.judged_leadBand l b, hd]; rfl
    obtain ⟨e, he, hb⟩ := Option.map_eq_some_iff.1 band
    rw [Lane.judged_g, ← hb]
    exact h.lead e he

/-- A judgement brings the state and the lead in line with the zones; a READY lane has zones to judge. -/
theorem Lane.banded_judged {b : Option Bool} (hb : b = none → l.state ≠ .ready) : (l.judged b).Banded b where
  formed := Lane.judged_inBand l b
  threading := by
    rw [Lane.judged_inBand]
    rintro e rfl
    simp only [Lane.judged] at e
    split at e <;> simp_all
  ready := by
    rw [Lane.judged_inBand]
    intro e
    rcases l.judged_state b with h | ⟨-, h, -⟩ | ⟨-, -, h⟩
    · rcases b with _ | _ | _
      · exact absurd (h ▸ e) (hb rfl)
      · simp only [Lane.judged] at e
        split at e <;> simp_all
      · rfl
    · exact h
    · rw [h] at e; cases e
  leading := by
    rw [Lane.judged_inBand]
    rintro e rfl
    cases hl : l.lead <;> simp [Lane.judged, Lane.isLeading, hl] at e

/-! ## Changes of the record -/

/-- A lower speed on the grid (R49). -/
theorem Lane.Paced.decreased (h : l.Paced bands crawl heating) {g : Nat} (hg : g ≤ l.g) (hm : g % 5 = 0)
    (graceMs : Nat) : (l.decreased g crawl graceMs).Paced bands crawl heating := by
  have zero : l.g = 0 → g = 0 := fun e => Nat.le_zero.1 (e ▸ hg)
  by_cases hr : l.state = .running ∧ g ≤ crawl
  · have e : l.decreased g crawl graceMs =
        { ({ l.clearLead with g := g, graceMs := graceMs } : Lane).leaveRunning with state := .ready } := if_pos hr
    have key : l.key ≠ none := by rw [Ne, h.keyed, hr.1]; decide
    have hold : l.residual = none := by
      by_contra hn
      rcases h.hold hn with e | e <;> rw [hr.1] at e <;> cases e
    rw [e]
    exact
      { keyed := iff_of_false key nofun
        step := hm
        atMostMax := hg.trans h.atMostMax
        stopped := fun e => by cases e
        onlyHeating := fun e => zero (h.onlyHeating e)
        crawling := fun _ => hr.2
        running := fun e => by cases e
        hold := fun e => absurd hold e
        broke := fun e => by cases e
        unjudged := fun e => by cases e
        hotWeb := fun _ => if_pos hr.1
        counts := ⟨h.counts.1, (if_pos hr.1).trans_le (Nat.zero_le 9), h.counts.2.2⟩ }
  · have e : l.decreased g crawl graceMs = { l.clearLead with g := g, graceMs := graceMs } := if_neg hr
    rw [e]
    exact
      { h with
        step := hm
        atMostMax := hg.trans h.atMostMax
        stopped := fun e => zero (h.stopped e)
        onlyHeating := fun e => zero (h.onlyHeating e)
        crawling := fun e => hg.trans (h.crawling e)
        running := fun e => Nat.lt_of_not_le fun hc => hr ⟨e, hc⟩ }

theorem Lane.Aimed.decreased (h : l.Aimed bands heating queued) {g : Nat} (hg : g ≤ l.g) (crawl graceMs : Nat) :
    (l.decreased g crawl graceMs).Aimed bands heating queued where
  target := by rw [Lane.decreased_target]; exact h.target
  moving := by rw [Lane.decreased_moving]; exact h.moving
  above t ht := by
    rw [Lane.decreased_target] at ht
    obtain ⟨above, rest⟩ := h.above t ht
    rw [Lane.decreased_g]
    exact ⟨hg.trans_lt above, rest⟩
  heats := h.heats
  lead d hd := by rw [Lane.decreased_lead] at hd; cases hd

/-- The record of a raise before its lead is looked at (R48). -/
def Lane.sped (l : Lane) (g crawl : Nat) (stamp : BitVec 16) : Lane :=
  { l with g := g, stamp := stamp, state := if l.state = .ready ∧ crawl < g then .running else l.state }

theorem Lane.raised_eq (l : Lane) (g crawl : Nat) (stamp : BitVec 16) (bands : List Band) :
    l.raised g crawl stamp bands = (l.sped g crawl stamp).leadReached bands := rfl

/-- Only the lead differs. -/
theorem Lane.leadReached_cases (l : Lane) (bands : List Band) :
    l.leadReached bands = l ∧ (∀ d, l.lead = some d → bandOf bands l.g < d.band) ∨
      l.leadReached bands = l.clearLead := by
  unfold Lane.leadReached
  cases l.lead with
  | none => exact .inl ⟨rfl, nofun⟩
  | some d =>
    dsimp only
    split
    · exact .inr rfl
    next h => exact .inl ⟨rfl, fun _ e => by cases e; exact Nat.lt_of_not_le h⟩

theorem Lane.Paced.leadReached (h : l.Paced bands crawl heating) (bs : List Band) :
    (l.leadReached bs).Paced bands crawl heating := by
  rcases l.leadReached_cases bs with ⟨e, -⟩ | e <;> rw [e]
  · exact h
  · exact { h with }

/-- A higher speed on the grid for a lane in READY or RUNNING (R48). -/
theorem Lane.Paced.raised (h : l.Paced bands crawl heating) {g : Nat} (hg : l.g < g) (hm : g % 5 = 0)
    (hmax : g ≤ maxSpeed bands) (hh : heating) (hs : l.state = .ready ∨ l.state = .running) (stamp : BitVec 16)
    (bs : List Band) : (l.raised g crawl stamp bs).Paced bands crawl heating := by
  rw [Lane.raised_eq]
  apply Lane.Paced.leadReached
  have moves : (l.sped g crawl stamp).state.moving = true := by
    unfold Lane.sped; rcases hs with e | e <;> simp only [e] <;> split <;> rfl
  have still {P : Prop} : (l.sped g crawl stamp).state.moving = false → P := fun e => by rw [moves] at e; cases e
  have unthreaded : (l.sped g crawl stamp).state ≠ .unthreaded := fun e => by rw [e] at moves; cases moves
  have hold : l.residual = none := by
    by_contra hn
    rcases h.hold hn with e | e <;> rcases hs with e' | e' <;> rw [e'] at e <;> cases e
  exact
    { keyed := iff_of_false (show l.key ≠ none by rw [Ne, h.keyed]; rcases hs with e | e <;> rw [e] <;> decide) unthreaded
      step := hm
      atMostMax := hmax
      stopped := still
      onlyHeating := fun e => absurd hh e
      crawling := fun e => by
        unfold Lane.sped at e ⊢
        dsimp only at e ⊢
        rcases hs with e' | e' <;> simp only [e', true_and, reduceCtorEq, false_and, ite_false, or_self] at e
        by_contra hc
        rw [if_pos (by omega)] at e
        rcases e with e | e <;> cases e
      running := fun e => by
        unfold Lane.sped at e ⊢
        dsimp only at e ⊢
        rcases hs with e' | e'
        · simp only [e', true_and] at e
          by_contra hc
          rw [if_neg hc] at e
          cases e
        · exact (h.running e').trans hg
      hold := fun e => absurd hold e
      broke := fun e => by rw [e] at moves; cases moves
      unjudged := still
      hotWeb := fun e => h.hotWeb fun e' => e (by simp [Lane.sped, e'])
      counts := h.counts }

theorem Lane.Aimed.raised (h : l.Aimed bands heating queued) {g T : Nat} (hT : l.target = some T) (hg : g < T)
    (crawl : Nat) (stamp : BitVec 16) : (l.raised g crawl stamp bands).Aimed bands heating queued := by
  have sped : (l.sped g crawl stamp).state.moving = l.state.moving := by
    simp only [Lane.sped]
    split
    next e => rw [e.1]; rfl
    next => rfl
  have above (t : Nat) (ht : l.target = some t) : g < t ∧ t % 5 = 0 ∧ t ≤ maxSpeed bands := by
    cases hT.symm.trans ht
    exact ⟨hg, (h.above T hT).2⟩
  rw [Lane.raised_eq]
  rcases (l.sped g crawl stamp).leadReached_cases bands with ⟨e, kept⟩ | e <;> rw [e]
  · exact ⟨h.target, fun q => sped.trans (h.moving q), above, h.heats, fun d hd =>
      ⟨(h.lead d hd).1, kept d hd, (h.lead d hd).2.2⟩⟩
  · exact ⟨h.target, fun q => sped.trans (h.moving q), above, h.heats, nofun⟩

/-- A lane that stands still with a residual load (R54, R58). -/
theorem Lane.Paced.stopped_lane (h : l.Paced bands crawl heating) (hk : l.state ≠ .unthreaded) {state : LaneState}
    (hs : state = .broke ∨ state = .suspended) (load holdMs graceMs : Nat) (heating' : Prop) :
    (l.stopped state load holdMs graceMs).Paced bands crawl heating' := by
  have key : l.key ≠ none := mt h.keyed.1 hk
  have hot : (if l.state = .running then 0 else l.hotWeb) = 0 := by
    split
    · rfl
    next e => exact h.hotWeb e
  rcases hs with rfl | rfl
  all_goals exact
    { keyed := iff_of_false key nofun
      step := rfl
      atMostMax := Nat.zero_le _
      stopped := fun _ => rfl
      onlyHeating := fun _ => rfl
      crawling := fun e => by rcases e with e | e <;> cases e
      running := fun e => by cases e
      hold := fun _ => by simp [Lane.stopped]
      broke := fun _ => by simp [Lane.stopped]
      unjudged := fun _ => ⟨rfl, rfl⟩
      hotWeb := fun _ => hot
      counts := ⟨Nat.zero_le _, hot.trans_le (Nat.zero_le 9), h.counts.2.2⟩ }

/-- A lane that stands still has no speed, whether the dryer heats or not. -/
theorem Lane.Paced.still (h : l.Paced bands crawl heating) (hg : l.g = 0) (heating' : Prop) :
    l.Paced bands crawl heating' := { h with onlyHeating := fun _ => hg }

theorem Lane.Aimed.still (h : l.Aimed bands heating queued) (hq : ¬queued) (heating' : Prop) :
    l.Aimed bands heating' queued := { h with heats := fun q => absurd q hq }

end

end Sys2Proof.Machine
end

section
/-! PROOF. The laws of every lane together with the queue, the counts and the horn, as one property of a state that the
operations on a lane keep; whether the dryer heats is a parameter, so that a change of the dryer and the suspensions that
follow it are each an operation of their own. -/

namespace Sys2Proof.Machine

/-! ## The property -/

/-- The speeds of the calibration and of the profiles lie on the grid of 5 m/min (R1, R3, R150). -/
structure SpeedGrid (s : State) : Prop where
  crawl : s.cal.values.crawl ≤ 60 ∧ s.cal.values.crawl % 5 = 0
  ramp : 5 ≤ s.cal.values.rampStep ∧ s.cal.values.rampStep % 5 = 0
  profiles : ProfilesLaw s

theorem RangesLaw.grid {s : State} (l : RangesLaw s) : SpeedGrid s :=
  ⟨⟨l.1.crawlRange.2.1, l.1.crawlRange.2.2⟩, ⟨l.1.rampRange.1, l.1.rampRange.2.2⟩, l.2⟩

/-- The laws of one lane in a state (R42 to R64, R79, R105). -/
structure LaneSound (s : State) (heating : Prop) (n : LaneId) : Prop where
  paced : (s.lane n).Paced (s.bandsOf n) s.cal.values.crawl heating
  aimed : (s.lane n).Aimed (s.bandsOf n) heating (n ∈ s.arbiter.queue)
  banded : (s.lane n).Banded (s.zonesInBand n)

/-- The laws of the lanes and the queue, of the counts, and of the horn's cadence. -/
structure SoundAs (heating : Prop) (s : State) : Prop where
  grid : SpeedGrid s
  nodup : s.arbiter.queue.Nodup
  lane : ∀ n, LaneSound s heating n
  counts : CountLaw s
  quiet : s.horn.continuous = true → s.horn.cadence = none

/-- The laws, with the dryer as it stands. -/
def Sound (s : State) : Prop := SoundAs (s.dryer.state = .heating) s

theorem Lawful.sound {s : State} (l : Lawful s) : Sound s where
  grid := RangesLaw.grid ⟨l.calibration, l.profiles⟩
  nodup := l.queue.nodup
  lane n :=
    { paced :=
        { keyed := l.binding.keyed n
          step := l.speed.step n
          atMostMax := l.speed.atMostMax n
          stopped := l.speed.stopped n
          onlyHeating := l.speed.onlyHeating n
          crawling := l.speed.crawling n
          running := l.speed.running n
          hold := l.lane.hold n
          broke := l.lane.broke n
          unjudged := l.lane.unjudged n
          hotWeb := l.lane.hotWeb n
          counts := l.lane.counts n }
      aimed :=
        { target := l.queue.target n
          moving := l.queue.moving n
          above := l.queue.above n
          heats := fun h => by
            by_contra hd
            rw [l.queue.onlyHeating hd] at h
            cases h
          lead := l.queue.lead n }
      banded := ⟨l.inBand.formed n, l.inBand.threading n, l.inBand.ready n, l.inBand.leading n⟩ }
  counts := l.counts
  quiet := l.horn.noCadence

section
variable {s : State} (h : Sound s)
include h

theorem Sound.speedLaw : SpeedLaw s where
  step n := (h.lane n).paced.step
  atMostMax n := (h.lane n).paced.atMostMax
  stopped n := (h.lane n).paced.stopped
  onlyHeating n := (h.lane n).paced.onlyHeating
  crawling n := (h.lane n).paced.crawling
  running n := (h.lane n).paced.running

theorem Sound.queueLaw : QueueLaw s where
  nodup := h.nodup
  target n := (h.lane n).aimed.target
  moving n := (h.lane n).aimed.moving
  above n := (h.lane n).aimed.above
  onlyHeating hd := List.eq_nil_iff_forall_not_mem.2 fun n hn => hd ((h.lane n).aimed.heats hn)
  lead n := (h.lane n).aimed.lead

theorem Sound.inBandLaw : InBandLaw s where
  formed n := (h.lane n).banded.formed
  threading n := (h.lane n).banded.threading
  ready n := (h.lane n).banded.ready
  leading n := (h.lane n).banded.leading

theorem Sound.laneLaw : LaneLaw s where
  hold n := (h.lane n).paced.hold
  broke n := (h.lane n).paced.broke
  unjudged n := (h.lane n).paced.unjudged
  hotWeb n := (h.lane n).paced.hotWeb
  counts n := (h.lane n).paced.counts

end

/-! ## What a lane's laws go by -/

section
variable {s t : State} {n : LaneId}

theorem SpeedGrid.bandsLaw (g : SpeedGrid s) (n : LaneId) : BandsLaw (s.bandsOf n) := by
  unfold State.bandsOf State.profileOf
  split
  · exact bandsLaw_nil
  next k _ =>
    cases hp : findProfile s.profiles k with
    | none => exact bandsLaw_nil
    | some p => exact (g.profiles p (findProfile_mem hp)).bandsLaw

/-- The record of the lane's profile has the same fields in two tables. -/
def SameProfile (s t : State) (n : LaneId) : Prop := ∀ k, (s.lane n).key = some k →
  (findProfile t.profiles k).map (·.toProfileFields) = (findProfile s.profiles k).map (·.toProfileFields)

theorem SameProfile.of_eq (h : t.profiles = s.profiles) : SameProfile s t n := fun _ _ => by rw [h]

section
variable (table : SameProfile s t n) (hk : (t.lane n).key = (s.lane n).key)
include table hk

theorem SameProfile.profileOf :
    (t.profileOf n).map (·.toProfileFields) = (s.profileOf n).map (·.toProfileFields) := by
  unfold State.profileOf
  rw [hk]
  cases e : (s.lane n).key with
  | none => rfl
  | some k => exact table k e

theorem SameProfile.bandsOf : t.bandsOf n = s.bandsOf n := by
  have bands (o : Option Profile) : (o.map (·.bands)).getD [] = ((o.map (·.toProfileFields)).map (·.bands)).getD [] := by
    cases o <;> rfl
  unfold State.bandsOf
  rw [bands, bands, table.profileOf hk]

/-- The in-band state goes by the lane's key, heat band, profile and zone channels alone (R104, R105). -/
theorem SameProfile.zonesInBand (hh : ∀ bands, (t.lane n).heatBand bands = (s.lane n).heatBand bands)
    (hr : ∀ z, t.reading (.zone n z) = s.reading (.zone n z)) : t.zonesInBand n = s.zonesInBand n := by
  have fields := table.profileOf hk
  unfold State.zonesInBand State.zoneInBand State.setpoint
  rw [hk]
  cases (s.lane n).key with
  | none => rfl
  | some k =>
    cases hp : s.profileOf n with
    | none => rw [hp] at fields; rw [Option.map_eq_none_iff.1 fields]
    | some p =>
      rw [hp] at fields
      obtain ⟨q, hq, e⟩ := Option.map_eq_some_iff.1 fields
      have bands : q.bands = p.bands := congrArg ProfileFields.bands e
      have tolerance : q.tolerance = p.tolerance := congrArg ProfileFields.tolerance e
      simp only [hq, hh, hr, bands, tolerance]

end

/-- A lane's laws hold on where its record, its entry, its profile's fields, its zone channels and the crawl speed stay. -/
theorem LaneSound.congr {H : Prop} (h : LaneSound s H n) (lane : t.lane n = s.lane n)
    (entry : n ∈ t.arbiter.queue ↔ n ∈ s.arbiter.queue) (table : SameProfile s t n)
    (readings : ∀ z, t.reading (.zone n z) = s.reading (.zone n z)) (crawl : t.cal.values.crawl = s.cal.values.crawl) :
    LaneSound t H n := by
  have key : (t.lane n).key = (s.lane n).key := by rw [lane]
  have bands := table.bandsOf key
  have zones := table.zonesInBand key (fun _ => by rw [lane]) readings
  obtain ⟨paced, aimed, banded⟩ := h
  constructor
  · rw [lane, bands, crawl]; exact paced
  · rw [lane, bands, propext entry]; exact aimed
  · rw [lane, zones]; exact banded

theorem zonesInBand_eq_none : s.zonesInBand n = none ↔ (s.lane n).key = none := by
  unfold State.zonesInBand
  split
  next e => simp [e]
  next k e =>
    rw [e]
    split <;> simp

/-- A lane judged by its zones agrees with them. -/
theorem banded_settle (hk : (s.lane n).key = none → (s.lane n).state = .unthreaded) :
    ((s.settle n).lane n).Banded ((s.settle n).zonesInBand n) := by
  rw [State.zonesInBand_settle, State.lane_settle_same]
  refine Lane.banded_judged fun e => ?_
  rw [hk (zonesInBand_eq_none.1 e)]
  decide

end

/-! ## Operations on one lane -/

/-- `t` follows from `s` by an operation on lane `n`, its queue entry and its break input. -/
structure ActsOn (n : LaneId) (s t : State) : Prop where
  keeps : KeepsAllBut [.lane n, .arbiter, .breaks] s t
  excess : t.arbiter.excess = s.arbiter.excess
  nodup : s.arbiter.queue.Nodup → t.arbiter.queue.Nodup
  others : ∀ m, m ≠ n → (m ∈ t.arbiter.queue ↔ m ∈ s.arbiter.queue)

section
variable {s t u : State} {n : LaneId}

theorem ActsOn.refl (n : LaneId) (s : State) : ActsOn n s s := ⟨.refl _ s, rfl, id, fun _ _ => .rfl⟩

theorem ActsOn.trans (h : ActsOn n s t) (h' : ActsOn n t u) : ActsOn n s u :=
  ⟨h.keeps.trans h'.keeps, h'.excess.trans h.excess, h'.nodup ∘ h.nodup,
    fun m hm => (h'.others m hm).trans (h.others m hm)⟩

theorem ActsOn.of_keeps (h : KeepsAllBut [.lane n, .breaks] s t) : ActsOn n s t := by
  have arbiter : t.arbiter = s.arbiter := h.1 .arbiter (by simp)
  exact ⟨h.mono (by simp), by rw [arbiter], by rw [arbiter]; exact id, fun m _ => by rw [arbiter]⟩

theorem actsOn_modLane (s : State) (n : LaneId) (f : Lane → Lane) : ActsOn n s (s.modLane n f) :=
  .of_keeps ((keepsAllBut_modLane s n f).mono (by simp))

theorem actsOn_settle (s : State) (n : LaneId) : ActsOn n s (s.settle n) := actsOn_modLane ..

theorem actsOn_decrease (s : State) (n : LaneId) (g : Nat) : ActsOn n s (s.decrease n g) :=
  (actsOn_modLane ..).trans (actsOn_settle ..)

theorem actsOn_checkInput (s : State) (n : LaneId) : ActsOn n s (s.checkInput n) :=
  .of_keeps ((keepsAllBut_checkInput s n).mono (by simp))

theorem actsOn_removeTarget (s : State) (n : LaneId) : ActsOn n s (s.removeTarget n) where
  keeps := (keepsAllBut_removeTarget s n).mono (by simp)
  excess := rfl
  nodup h := h.filter _
  others m hm := by simp [State.removeTarget_queue, hm]

theorem actsOn_stamp (s : State) (n : LaneId) (stamp : BitVec 16) :
    ActsOn n s { s with arbiter := { s.arbiter with stamp := stamp } } where
  keeps := ⟨fun p hp => by cases p <;> first | rfl | simp at hp, rfl⟩
  excess := rfl
  nodup := id
  others _ _ := .rfl

theorem actsOn_raise (s : State) (n : LaneId) (g : Nat) : ActsOn n s (s.raise n g) :=
  ((actsOn_stamp ..).trans (actsOn_modLane ..)).trans (actsOn_settle ..)

theorem actsOn_stopLane (s : State) (n : LaneId) (state : LaneState) (graceMs : Nat) :
    ActsOn n s (s.stopLane n state graceMs) :=
  ((actsOn_removeTarget ..).trans (actsOn_modLane ..)).trans (actsOn_settle ..)

theorem actsOn_joinQueue (s : State) (n : LaneId) : ActsOn n s (s.joinQueue n) := by
  unfold State.joinQueue
  split
  · exact .refl n s
  next hq =>
    refine ⟨⟨fun p hp => by cases p <;> first | rfl | simp at hp, rfl⟩, rfl, fun h => ?_, fun m hm => ?_⟩
    · have absent : n ∉ s.arbiter.queue := by simpa [State.queued] using hq
      exact List.nodup_append.2 ⟨h, List.nodup_singleton n, fun a ha b hb e => absent (List.mem_singleton.1 hb ▸ e ▸ ha)⟩
    · simp [hm]

section
variable (a : ActsOn n s t)
include a

theorem ActsOn.profiles : t.profiles = s.profiles := a.keeps.1 .profiles (by simp)
theorem ActsOn.cal : t.cal = s.cal := a.keeps.1 .cal (by simp)
theorem ActsOn.readings : t.readings = s.readings := a.keeps.1 .readings (by simp)
theorem ActsOn.dryer : t.dryer = s.dryer := a.keeps.1 .dryer (by simp)
theorem ActsOn.lane_other {m : LaneId} (hm : m ≠ n) : t.lane m = s.lane m := a.keeps.1 (.lane m) (by simp [hm])
theorem ActsOn.bandsOf (hk : (t.lane n).key = (s.lane n).key) : t.bandsOf n = s.bandsOf n :=
  (SameProfile.of_eq a.profiles).bandsOf hk

theorem ActsOn.grid (g : SpeedGrid s) : SpeedGrid t where
  crawl := a.cal ▸ g.crawl
  ramp := a.cal ▸ g.ramp
  profiles := by unfold ProfilesLaw; rw [a.profiles]; exact g.profiles

end

end

theorem CountLaw.congr {s t : State} (h : CountLaw s) (load : t.load.peak = s.load.peak)
    (estimated : t.load.estimated = s.load.estimated) (excess : t.arbiter.excess = s.arbiter.excess)
    (zeroRun : t.exhaust.zeroRun = s.exhaust.zeroRun) (port : t.port = s.port)
    (mask : t.attention.mask = s.attention.mask) : CountLaw t where
  peak := by rw [load, estimated]; exact h.peak
  excess := by rw [excess]; exact h.excess
  zeroRun := by rw [zeroRun]; exact h.zeroRun
  link := by rw [port]; exact h.link
  mask := by rw [mask]; exact h.mask

section
variable {s t : State} {n : LaneId} {H : Prop} (h : SoundAs H s)
include h

/-- An operation on a lane keeps the laws where it keeps those of that lane. -/
theorem SoundAs.acts (a : ActsOn n s t) (l : LaneSound t H n) : SoundAs H t where
  grid := a.grid h.grid
  nodup := a.nodup h.nodup
  lane m := by
    by_cases hm : m = n
    · rw [hm]; exact l
    · exact (h.lane m).congr (a.lane_other hm) (a.others m hm) (.of_eq a.profiles)
        (fun _ => reading_congr a.readings _) (by rw [a.cal])
  counts := by
    have load : t.load = s.load := a.keeps.1 .load (by simp)
    have attention : t.attention = s.attention := a.keeps.1 .attention (by simp)
    have exhaust : t.exhaust = s.exhaust := a.keeps.1 .exhaust (by simp)
    exact h.counts.congr (by rw [load]) (by rw [load]) a.excess (by rw [exhaust]) (a.keeps.1 .port (by simp))
      (by rw [attention])
  quiet := by
    have horn : t.horn = s.horn := a.keeps.1 .horn (by simp)
    rw [horn]; exact h.quiet

/-- An operation on a lane that ends with a judgement of its zones. -/
theorem SoundAs.settled (a : ActsOn n s t) (paced : (t.lane n).Paced (t.bandsOf n) s.cal.values.crawl H)
    (aimed : (t.lane n).Aimed (t.bandsOf n) H (n ∈ t.arbiter.queue)) : SoundAs H (t.settle n) := by
  have bands : (t.settle n).bandsOf n = t.bandsOf n := (actsOn_settle t n).bandsOf (by simp)
  refine h.acts (a.trans (actsOn_settle t n)) ⟨?_, ?_, banded_settle paced.keyed.1⟩
  · rw [bands, State.lane_settle_same, show (t.settle n).cal = s.cal from a.cal]
    exact paced.judged _
  · rw [bands, State.lane_settle_same]
    exact aimed.judged _

/-- The same, where the lane keeps its key. -/
theorem SoundAs.settled_key (a : ActsOn n s t) (key : (t.lane n).key = (s.lane n).key)
    (paced : (t.lane n).Paced (s.bandsOf n) s.cal.values.crawl H)
    (aimed : (t.lane n).Aimed (s.bandsOf n) H (n ∈ t.arbiter.queue)) : SoundAs H (t.settle n) :=
  h.settled a (a.bandsOf key ▸ paced) (a.bandsOf key ▸ aimed)

theorem SoundAs.settle (n : LaneId) : SoundAs H (s.settle n) :=
  h.settled (.refl n s) (h.lane n).paced (h.lane n).aimed

/-- A lane without target, entry and lead. -/
theorem SoundAs.removed (n : LaneId) : SoundAs H ((s.removeTarget n).settle n) := by
  refine h.settled_key (actsOn_removeTarget s n) ?_ ?_ ?_ <;> rw [State.lane_removeTarget_same]
  · rfl
  · exact { (h.lane n).paced with }
  · exact Lane.aimless (by simp [State.removeTarget_queue]) rfl rfl

theorem SoundAs.decrease (n : LaneId) {g : Nat} (hg : g ≤ (s.lane n).g) (hm : g % 5 = 0) :
    SoundAs H (s.decrease n g) := by
  refine h.settled_key (actsOn_modLane ..) ?_ ?_ ?_ <;> rw [State.lane_modLane_same]
  · exact (steady_decreased ..).key
  · exact (h.lane n).paced.decreased hg hm _
  · exact (h.lane n).aimed.decreased hg _ _

/-- A lane that stops stands still with a residual load (R54, R58). -/
theorem SoundAs.stopLane (n : LaneId) (hn : (s.lane n).state ≠ .unthreaded) {state : LaneState}
    (hs : state = .broke ∨ state = .suspended) (graceMs : Nat) : SoundAs H (s.stopLane n state graceMs) := by
  refine h.settled_key ((actsOn_removeTarget ..).trans (actsOn_modLane ..)) ?_ ?_ ?_ <;>
    rw [State.lane_modLane_same, State.lane_removeTarget_same]
  · rfl
  · exact Lane.Paced.stopped_lane (l := { (s.lane n).clearLead with target := none }) { (h.lane n).paced with } hn hs ..
  · exact Lane.aimless (by simp [State.removeTarget_queue]) rfl rfl

/-- A change of a lane record that its laws do not go by. -/
theorem SoundAs.modLane (n : LaneId) {f : Lane → Lane}
    (paced : (f (s.lane n)).Paced (s.bandsOf n) s.cal.values.crawl H)
    (g : (f (s.lane n)).g = (s.lane n).g) (key : (f (s.lane n)).key = (s.lane n).key)
    (target : (f (s.lane n)).target = (s.lane n).target) (lead : (f (s.lane n)).lead = (s.lane n).lead)
    (inBand : (f (s.lane n)).inBand = (s.lane n).inBand)
    (state : (f (s.lane n)).state = (s.lane n).state ∨
      (s.lane n).state.moving = false ∧ (f (s.lane n)).state.moving = false) : SoundAs H (s.modLane n f) := by
  obtain ⟨-, aimed, banded⟩ := h.lane n
  have a := actsOn_modLane s n f
  have lane := State.lane_modLane_same s n f
  have bands : (s.modLane n f).bandsOf n = s.bandsOf n := a.bandsOf (by rw [lane, key])
  have zones : (s.modLane n f).zonesInBand n = s.zonesInBand n :=
    State.zonesInBand_congr (by rw [lane, key]) (Lane.heatBand_congr (by rw [lane, g]) (by rw [lane, lead])) rfl rfl rfl
  have moving : (f (s.lane n)).state.moving = (s.lane n).state.moving :=
    state.elim (congrArg _) fun e => e.2.trans e.1.symm
  have same {st : LaneState} (hst : st.moving = true) (e : (f (s.lane n)).state = st) : (s.lane n).state = st := by
    rcases state with e' | ⟨-, e'⟩
    · exact e'.symm.trans e
    · rw [e, hst] at e'; cases e'
  refine h.acts a ⟨?_, ?_, ?_⟩ <;> rw [lane]
  · rw [bands]; exact paced
  · rw [bands]
    exact
      { target := target ▸ aimed.target
        moving := moving ▸ aimed.moving
        above := by rw [target, g]; exact aimed.above
        heats := aimed.heats
        lead := by rw [lead, g]; exact aimed.lead }
  · rw [zones]
    exact
      { formed := inBand ▸ banded.formed
        threading := fun e => inBand ▸ banded.threading (same rfl e)
        ready := fun e => inBand ▸ banded.ready (same rfl e)
        leading := by unfold Lane.isLeading; rw [lead, inBand]; exact banded.leading }

/-! ## Changes beside the lanes -/

/-- A change that leaves the lanes, the queue, the table, the readings and the calibration's values. -/
theorem SoundAs.beside (lanes : t.lanes = s.lanes) (queue : t.arbiter.queue = s.arbiter.queue)
    (profiles : t.profiles = s.profiles) (readings : t.readings = s.readings) (cal : t.cal.values = s.cal.values)
    (counts : CountLaw t) (quiet : t.horn.continuous = true → t.horn.cadence = none) : SoundAs H t where
  grid := ⟨by rw [cal]; exact h.grid.crawl, by rw [cal]; exact h.grid.ramp, by unfold ProfilesLaw; rw [profiles]; exact h.grid.profiles⟩
  nodup := queue ▸ h.nodup
  lane n := (h.lane n).congr (State.lane_congr lanes n) (by rw [queue]) (.of_eq profiles)
    (fun _ => reading_congr readings _) (by rw [cal])
  counts := counts
  quiet := quiet

theorem SoundAs.reform : SoundAs H s.reform :=
  h.beside rfl rfl rfl rfl rfl (h.counts.congr rfl rfl rfl rfl rfl rfl) h.quiet

theorem SoundAs.reformLimit : SoundAs H s.reformLimit :=
  h.beside rfl rfl rfl rfl rfl (h.counts.congr rfl rfl rfl rfl rfl rfl) h.quiet

theorem SoundAs.latchLane (c : Cause) (n : LaneId) : SoundAs H (s.latchLane c n) :=
  h.beside rfl rfl rfl rfl rfl (h.counts.congr rfl rfl rfl rfl rfl rfl) h.quiet

theorem SoundAs.latch (c : Cause) : SoundAs H (s.latch c) := by
  unfold State.latch
  dsimp only
  split
  · refine h.beside rfl rfl rfl rfl rfl (h.counts.congr rfl rfl rfl rfl rfl rfl) fun e => ?_
    exact if_pos e
  · exact h.beside rfl rfl rfl rfl rfl (h.counts.congr rfl rfl rfl rfl rfl rfl) h.quiet

theorem SoundAs.startCadence : SoundAs H s.startCadence := by
  unfold State.startCadence
  split
  · exact h
  next hc =>
    exact h.beside rfl rfl rfl rfl rfl (h.counts.congr rfl rfl rfl rfl rfl rfl) fun e => absurd e hc

theorem SoundAs.enterDryer (d : DryerState) : SoundAs H (s.enterDryer d) :=
  h.beside rfl rfl rfl rfl rfl
    ⟨h.counts.peak, h.counts.excess, Nat.zero_le _, h.counts.link, h.counts.mask⟩ h.quiet

/-- Whether the dryer heats is no matter to lanes that stand still without an entry. -/
theorem SoundAs.still (g : ∀ n, (s.lane n).g = 0) (queue : ∀ n, n ∉ s.arbiter.queue) (H' : Prop) : SoundAs H' s :=
  { h with lane := fun n =>
      ⟨(h.lane n).paced.still (g n) H', (h.lane n).aimed.still (queue n) H', (h.lane n).banded⟩ }

/-- Where the dryer does not heat it may begin to, or pass to another state. -/
theorem SoundAs.of_not (hH : ¬H) (H' : Prop) : SoundAs H' s :=
  h.still (fun n => (h.lane n).paced.onlyHeating hH) (fun n hn => hH ((h.lane n).aimed.heats hn)) H'

/-- No lane is in motion: the dryer may cease to heat. -/
theorem SoundAs.of_no_moving (hm : ∀ n, (s.lane n).state.moving = false) (H' : Prop) : SoundAs H' s :=
  h.still (fun n => (h.lane n).paced.stopped (hm n))
    (fun n hn => by have := (h.lane n).aimed.moving hn; rw [hm n] at this; cases this) H'

end

/-- A property that every operation of a walk keeps holds after the walk. -/
theorem foldl_keeps {α β : Type} {P : β → Prop} {f : β → α → β} (hf : ∀ b a, P b → P (f b a)) (l : List α) {b : β}
    (hb : P b) : P (l.foldl f b) := by
  induction l generalizing b with
  | nil => exact hb
  | cons a l ih => exact ih (hf b a hb)

end Sys2Proof.Machine
end

section
/-! PROOF. The operations of the lane unit and of the dryer sequencer keep the laws of the lanes (R46 to R60, R83 to
R95). -/

namespace Sys2Proof.Machine

/-! ## Breaks, suspension, resumption -/

section
variable {s : State} {n : LaneId} {H : Prop} (h : SoundAs H s)
include h

theorem SoundAs.breakLane (n : LaneId) : SoundAs H (s.breakLane n) := by
  unfold State.breakLane
  split
  next hm =>
    exact ((h.stopLane n (LaneState.ne_unthreaded_of_moving hm) (.inl rfl) _).latchLane _ n).startCadence
  · exact h

theorem SoundAs.suspendWhere {test : LaneState → Bool} (ht : test .unthreaded = false) :
    SoundAs H (s.suspendWhere test) := by
  refine foldl_keeps (fun t n h => ?_) _ h
  split
  next hn => exact h.stopLane n (fun e => by rw [e, ht] at hn; cases hn) (.inr rfl) _
  next => exact h

theorem SoundAs.resume (n : LaneId) : SoundAs H (s.resume n) := by
  unfold State.resume
  split
  next hs =>
    obtain ⟨paced, aimed, -⟩ := h.lane n
    have still : (s.lane n).state.moving = false := by rw [hs]; rfl
    have g : (s.lane n).g = 0 := paced.stopped still
    have unqueued : n ∉ s.arbiter.queue := fun hn => by have := aimed.moving hn; rw [still] at this; cases this
    have a := (actsOn_modLane s n fun l => { l with state := .threading, residual := none, residualMs := 0 }).trans
      (actsOn_checkInput _ n)
    have lane : ((s.modLane n fun l => { l with state := .threading, residual := none, residualMs := 0 }).checkInput
        n).lane n = { s.lane n with state := .threading, residual := none, residualMs := 0 } := by
      rw [State.lane_checkInput, State.lane_modLane_same]
    have arbiter : ((s.modLane n fun l => { l with state := .threading, residual := none, residualMs := 0 }).checkInput
        n).arbiter = s.arbiter := (keepsAllBut_checkInput _ n).1 .arbiter (by simp)
    refine h.settled_key a ?_ ?_ ?_ <;> rw [lane]
    · exact
        { paced with
          keyed := iff_of_false (show (s.lane n).key ≠ none by rw [Ne, paced.keyed, hs]; decide) nofun
          stopped := nofun
          crawling := fun _ => g.trans_le (Nat.zero_le _)
          running := nofun
          hold := fun e => absurd rfl e
          broke := nofun
          unjudged := nofun
          hotWeb := fun _ => paced.hotWeb (by rw [hs]; decide) }
    · rw [arbiter]
      refine Lane.aimless unqueued ?_ ?_
      · by_contra e; exact unqueued (aimed.target.2 e)
      · by_contra e
        obtain ⟨d, hd⟩ := Option.ne_none_iff_exists'.1 e
        exact unqueued (aimed.lead d hd).1
  · exact h

theorem SoundAs.resumeAll : SoundAs H s.resumeAll := foldl_keeps (fun _ n h => h.resume n) _ h

end

/-! ## What a walk of suspensions leaves -/

theorem stopLane_state (s : State) (n : LaneId) {state : LaneState} (hs : state.moving = false) (graceMs : Nat) :
    ((s.stopLane n state graceMs).lane n).state = state := by
  unfold State.stopLane
  rw [State.lane_settle_same, State.lane_modLane_same, Lane.judged_still] <;> simp [Lane.stopped, hs]

/-- The lanes whose state the test names are SUSPENDED, the others as they were. -/
theorem suspendWhere_state (s : State) (test : LaneState → Bool) (n : LaneId) :
    (test (s.lane n).state = true → ((s.suspendWhere test).lane n).state = .suspended) ∧
      (test (s.lane n).state = false → (s.suspendWhere test).lane n = s.lane n) := by
  have walk (ns : List LaneId) (hns : ns.Nodup) (t : State) :
      (n ∉ ns → (ns.foldl (fun t m => if test (t.lane m).state then t.suspend m else t) t).lane n = t.lane n) ∧
      (n ∈ ns → (test (t.lane n).state = true →
          ((ns.foldl (fun t m => if test (t.lane m).state then t.suspend m else t) t).lane n).state = .suspended) ∧
        (test (t.lane n).state = false →
          (ns.foldl (fun t m => if test (t.lane m).state then t.suspend m else t) t).lane n = t.lane n)) := by
    induction ns generalizing t with
    | nil => simp
    | cons m ns ih =>
      obtain ⟨hm, hns⟩ := List.nodup_cons.1 hns
      obtain ⟨absent, present⟩ := ih hns (if test (t.lane m).state then t.suspend m else t)
      have other (hn : n ≠ m) : (if test (t.lane m).state then t.suspend m else t).lane n = t.lane n := by
        split
        · exact (actsOn_stopLane t m _ _).lane_other hn
        · rfl
      rw [List.foldl_cons]
      refine ⟨fun hn => ?_, fun hn => ?_⟩
      · obtain ⟨hne, hn⟩ := not_or.1 (List.mem_cons.not.1 hn)
        rw [absent hn, other hne]
      · by_cases e : n = m
        · subst e
          rw [absent hm]
          refine ⟨fun ht => ?_, fun ht => ?_⟩
          · rw [if_pos ht]; exact stopLane_state t n rfl _
          · rw [if_neg (by rw [ht]; decide)]
        · rw [← other e]
          exact present ((List.mem_cons.1 hn).resolve_left e)
  exact (walk LaneId.all (by decide) s).2 (by cases n <;> decide)

/-- After a suspension of every lane in motion none is. -/
theorem suspendWhere_moving (s : State) {test : LaneState → Bool}
    (ht : ∀ n, (s.lane n).state.moving = true → test (s.lane n).state = true) (n : LaneId) :
    ((s.suspendWhere test).lane n).state.moving = false := by
  obtain ⟨named, passed⟩ := suspendWhere_state s test n
  cases hn : test (s.lane n).state with
  | true => rw [named hn]; rfl
  | false =>
    rw [passed hn, ← Bool.not_eq_true]
    intro hm
    rw [ht n hm] at hn
    cases hn

theorem keepsAllBut_suspendWhere (s : State) (test : LaneState → Bool) :
    KeepsAllBut (.arbiter :: everyLane) s (s.suspendWhere test) := by
  refine foldl_keeps (P := KeepsAllBut (.arbiter :: everyLane) s) (fun t n h => h.trans ?_) _ (.refl _ s)
  split
  · refine KeepsAllBut.mono (small := [.lane n, .arbiter]) ?_ (by cases n <;> decide)
    exact (keepsAllBut_removeTarget ..).trans
      (((keepsAllBut_modLane ..).mono (by simp)).trans ((keepsAllBut_settle ..).mono (by simp)))
  · exact .refl _ t

/-! ## The dryer -/

/-- The dryer's record is none of the lanes'. -/
theorem SoundAs.withDryer {s : State} {H : Prop} (h : SoundAs H s) (d : Dryer) : SoundAs H { s with dryer := d } :=
  h.beside rfl rfl rfl rfl rfl (h.counts.congr rfl rfl rfl rfl rfl rfl) h.quiet

section
variable {s : State} (h : Sound s)
include h

/-- Nothing moves in the lanes outside HEATING but THREADING and READY lanes (R44). -/
theorem Sound.not_running (hd : s.dryer.state ≠ .heating) (n : LaneId) : (s.lane n).state ≠ .running := fun e => by
  have := (h.lane n).paced.running e
  rw [(h.lane n).paced.onlyHeating hd] at this
  cases this

theorem Sound.requestSafeHold (c : HoldCause) : Sound (s.requestSafeHold c) := by
  unfold State.requestSafeHold
  split
  · have entered : SoundAs (s.dryer.state = .heating) ((s.enterDryer .safeHold).latch .safeHold) :=
      (SoundAs.enterDryer h _).latch _
    unfold State.enterSafeHold
    exact ((entered.withDryer _).suspendWhere rfl).of_no_moving (suspendWhere_moving _ fun _ => id) _
  · exact h

theorem Sound.enterHeating (hd : s.dryer.state ≠ .heating) : Sound s.enterHeating :=
  ((SoundAs.enterDryer h _).resumeAll).of_not hd _

theorem Sound.endCooldown (hd : s.dryer.state = .cooldown) : Sound s.endCooldown :=
  ((SoundAs.enterDryer h _).latch _).of_not (by rw [hd]; decide) _

theorem Sound.testCool : Sound s.testCool := by
  unfold State.testCool
  split
  next hc => exact h.endCooldown hc.1
  · exact h

theorem Sound.enterCooldown (hr : ∀ n, (s.lane n).state ≠ .running) : Sound s.enterCooldown := by
  have entered : SoundAs (s.dryer.state = .heating) (s.enterDryer .cooldown) := SoundAs.enterDryer h _
  unfold State.enterCooldown
  refine Sound.testCool (((entered.withDryer _).suspendWhere rfl).of_no_moving
    (suspendWhere_moving _ fun n hm => ?_) _)
  have running : (s.lane n).state ≠ .running := hr n
  change (s.lane n).state.moving = true at hm
  change (s.lane n).state.threadingOrReady = true
  cases e : (s.lane n).state <;> simp_all [LaneState.moving, LaneState.threadingOrReady]

/-- The flow's figures are none of the lanes' (R84, R87). -/
theorem Sound.exhaust {e : Exhaust} (he : e.zeroRun ≤ 3) : Sound { s with exhaust := e } :=
  SoundAs.beside h rfl rfl rfl rfl rfl ⟨h.counts.peak, h.counts.excess, he, h.counts.link, h.counts.mask⟩ h.quiet

theorem Sound.judgeFlow (count : Nat) : Sound (s.judgeFlow count).1 := by
  have run : (judgeRun s.exhaust.zeroRun count).1 ≤ 3 := by
    have := h.counts.zeroRun
    unfold judgeRun
    split
    · exact Nat.zero_le _
    · split
      · exact Nat.zero_le _
      · exact Nat.lt_of_not_le ‹_›
  have judged : Sound { s with exhaust := { s.exhaust with zeroRun := (judgeRun s.exhaust.zeroRun count).1 } } :=
    h.exhaust run
  unfold State.judgeFlow
  dsimp only
  split
  · exact Eq.mp (by rw [Sound, State.latch_dryer]) (SoundAs.latch judged _)
  · exact judged

theorem Sound.flowWindow : Sound s.flowWindow := by
  have formed : Sound s.formFlow := h.exhaust h.counts.zeroRun
  unfold State.flowWindow
  split
  · unfold State.flowInHeating
    dsimp only
    split
    · exact (formed.judgeFlow _).requestSafeHold _
    · exact formed.judgeFlow _
  next hd =>
    have accumulated : Sound (s.formFlow.accumulate s.exhaust.count) := formed.exhaust formed.counts.zeroRun
    have judged := accumulated.judgeFlow s.exhaust.count
    have state : ((s.formFlow.accumulate s.exhaust.count).judgeFlow s.exhaust.count).1.dryer.state = .purge := by
      rw [judgeFlow_dryer]; exact hd
    have ended {t : State} (ht : Sound t) (hd : t.dryer.state = .purge) :
        Sound (if t.purgeTarget ≤ t.exhaust.accumulator then t.enterHeating else t) := by
      split
      · exact ht.enterHeating (by rw [hd]; decide)
      · exact ht
    unfold State.flowInPurge
    generalize (s.formFlow.accumulate s.exhaust.count).judgeFlow s.exhaust.count = r at judged state ⊢
    refine ended ?_ ?_
    · split
      · exact judged.exhaust judged.counts.zeroRun
      · exact judged
    · split <;> exact state
  · exact formed

end

/-! ## Targets -/

/-- A lane record that takes a pending target: g is at least crawl, and a lead goes where the target lies in band(g)
(R53). -/
def Lane.aimedAt (l : Lane) (t crawl : Nat) (bands : List Band) : Lane :=
  { l with
    g := max l.g crawl
    target := some t
    lead := if t ≤ boundOf bands (max l.g crawl) then none else l.lead
    leadMs := if t ≤ boundOf bands (max l.g crawl) then 0 else l.leadMs }

theorem queueTarget_eq (s : State) (n : LaneId) (t : Nat) :
    s.queueTarget n t = (s.modLane n fun l => l.aimedAt t s.cal.values.crawl (s.bandsOf n)).joinQueue n := by
  have aimed (l : Lane) : (if t ≤ boundOf (s.bandsOf n) (max l.g s.cal.values.crawl) then
      ({ l with g := max l.g s.cal.values.crawl, target := some t } : Lane).clearLead
      else { l with g := max l.g s.cal.values.crawl, target := some t }) =
      l.aimedAt t s.cal.values.crawl (s.bandsOf n) := by
    unfold Lane.aimedAt
    split <;> rfl
  exact congrArg (fun f => (s.modLane n f).joinQueue n) (funext aimed)

theorem queued_iff {s : State} {n : LaneId} : s.queued n = true ↔ n ∈ s.arbiter.queue := List.contains_iff_mem

@[simp] theorem State.lane_joinQueue (s : State) (n m : LaneId) : (s.joinQueue n).lane m = s.lane m := by
  unfold State.joinQueue
  split <;> rfl

theorem State.joinQueue_arbiter (s : State) (n : LaneId) : (s.joinQueue n).arbiter = { s.arbiter with
    queue := if n ∈ s.arbiter.queue then s.arbiter.queue else s.arbiter.queue ++ [n] } := by
  by_cases hq : n ∈ s.arbiter.queue
  · rw [State.joinQueue, if_pos (queued_iff.2 hq), if_pos hq]
  · rw [State.joinQueue, if_neg (mt queued_iff.1 hq), if_neg hq]

theorem lane_queueTarget (s : State) (n : LaneId) (t : Nat) :
    (s.queueTarget n t).lane n = (s.lane n).aimedAt t s.cal.values.crawl (s.bandsOf n) := by
  rw [queueTarget_eq, State.lane_joinQueue, State.lane_modLane_same]

theorem actsOn_queueTarget (s : State) (n : LaneId) (t : Nat) : ActsOn n s (s.queueTarget n t) := by
  rw [queueTarget_eq]
  exact (actsOn_modLane ..).trans (actsOn_joinQueue ..)

section
variable {s : State} {n : LaneId} {H : Prop} (h : SoundAs H s)
include h

/-- A clamped target is on the grid and within the profile maximum (R51). -/
theorem SoundAs.clampedTarget (n : LaneId) (v : Nat) :
    s.clampedTarget n v % 5 = 0 ∧ s.clampedTarget n v ≤ maxSpeed (s.bandsOf n) := by
  have := (h.grid.bandsLaw n).maxSpeed_mod
  have := floor5_mod v
  unfold State.clampedTarget
  omega

variable (hH : H) (hs : (s.lane n).state.moving = true) {t : Nat} (hm : t % 5 = 0) (hmax : t ≤ maxSpeed (s.bandsOf n))
include hH hs hm hmax

/-- A target at or below crawl or g becomes g (R52). -/
theorem SoundAs.takeTargetNow (hup : ¬((s.lane n).g < t ∧ s.cal.values.crawl < t)) :
    SoundAs H ((s.takeTargetNow n t).settle n) := by
  unfold State.takeTargetNow
  split
  next hlt => exact (h.decrease n hlt.le hm).removed n
  next hge =>
    split
    · exact h.removed n
    next hne =>
      have slow : t ≤ s.cal.values.crawl := by omega
      obtain ⟨paced, -, -⟩ := h.lane n
      refine h.settled_key ((actsOn_removeTarget ..).trans (actsOn_modLane ..)) ?_ ?_ ?_ <;>
        rw [State.lane_modLane_same, State.lane_removeTarget_same]
      · rfl
      · exact
          { paced with
            step := hm
            atMostMax := hmax
            stopped := fun e => by cases hs.symm.trans e
            onlyHeating := fun e => absurd hH e
            crawling := fun _ => slow
            running := fun e => by have := paced.running e; omega }
      · exact Lane.aimless (by simp [State.removeTarget_queue]) rfl rfl

/-- A target above crawl and g is recorded and queued (R53). -/
theorem SoundAs.queueTarget (hg : (s.lane n).g < t) (hc : s.cal.values.crawl < t) :
    SoundAs H ((s.queueTarget n t).settle n) := by
  obtain ⟨paced, aimed, -⟩ := h.lane n
  obtain ⟨crawlMax, crawlMod⟩ := h.grid.crawl
  have entry : n ∈ (s.queueTarget n t).arbiter.queue := by
    rw [queueTarget_eq, State.joinQueue_arbiter]
    dsimp only
    split
    · assumption
    · simp
  refine h.settled_key (actsOn_queueTarget s n t) ?_ ?_ ?_ <;> rw [lane_queueTarget]
  · rfl
  · have step := paced.step
    exact
      { paced with
        step := by show max _ _ % 5 = 0; omega
        atMostMax := Nat.max_le.2 ⟨paced.atMostMax, hc.le.trans hmax⟩
        stopped := fun e => by cases hs.symm.trans e
        onlyHeating := fun e => absurd hH e
        crawling := fun e => Nat.max_le.2 ⟨paced.crawling e, le_refl _⟩
        running := fun e => (paced.running e).trans_le (Nat.le_max_left _ _) }
  · refine ⟨iff_of_true entry nofun, fun _ => hs, fun u hu => ?_, fun _ => hH, fun d hd => ?_⟩
    · cases hu
      exact ⟨Nat.max_lt.2 ⟨hg, hc⟩, hm, hmax⟩
    · have kept : (s.lane n).lead = some d := by
        unfold Lane.aimedAt at hd
        dsimp only at hd
        split at hd
        · cases hd
        · exact hd
      obtain ⟨-, above, length⟩ := aimed.lead d kept
      refine ⟨entry, ?_, length⟩
      show bandOf _ (max _ _) < _
      rcases Nat.le_total s.cal.values.crawl (s.lane n).g with e | e
      · rw [Nat.max_eq_left e]; exact above
      · have w := h.grid.bandsLaw n
        rw [Nat.max_eq_right e, w.bandOf_low crawlMax, ← w.bandOf_low (e.trans crawlMax)]
        exact above

end

/-! ## Trims -/

/-- A lane that a trim has dealt with obeys the laws under the new bands (R60). -/
theorem Trimmed.sound {l m : Lane} {old bands : List Band} {crawl graceMs : Nat} {H queued queued' : Prop}
    (d : Trimmed l m bands crawl graceMs) (paced : l.Paced old crawl H) (aimed : l.Aimed old H queued)
    (w : BandsLaw bands) (length : bands.length = old.length)
    (entry : queued' ↔ m.target ≠ none) : m.Paced bands crawl H ∧ m.Aimed bands H queued' := by
  have key : m.key = l.key := d.steady.key
  have zero : l.g = 0 → m.g = 0 := fun e => by rw [d.g, e]; exact Nat.zero_min _
  have still (hl : l.state.moving = false) : m.state = l.state := d.still hl
  have unthreaded : m.state = .unthreaded ↔ l.state = .unthreaded := by
    cases hl : l.state.moving with
    | false => rw [still hl]
    | true =>
      have := d.moving.trans hl
      refine iff_of_false (fun e => ?_) fun e => ?_
      · rw [e] at this; cases this
      · rw [e] at hl; cases hl
  have kept {st : LaneState} (hst : st.moving = false) : m.state = st ↔ l.state = st := by
    cases hl : l.state.moving with
    | false => rw [still hl]
    | true =>
      have := d.moving.trans hl
      refine iff_of_false (fun e => ?_) fun e => ?_
      · rw [e, hst] at this; cases this
      · rw [e, hst] at hl; cases hl
  have hadTarget (hm : m.target ≠ none) : ∃ T, l.target = some T := by
    by_contra e
    exact hm (d.noTarget (Option.eq_none_iff_forall_ne_some.2 fun T hT => e ⟨T, hT⟩))
  refine ⟨⟨by rw [key, paced.keyed, kept rfl], ?_, d.g ▸ Nat.min_le_right _ _, fun e => zero (paced.stopped (d.moving ▸ e)),
    fun e => zero (paced.onlyHeating e), fun e => ?_, fun e => ?_, fun e => ?_, fun e => ?_, fun e => ?_, fun e => ?_,
    ?_⟩, ⟨entry, fun q => ?_, fun T hT => ?_, fun q => ?_, fun e he => ?_⟩⟩
  · rw [d.g]
    have := paced.step
    have := w.maxSpeed_mod
    rcases Nat.le_total l.g (maxSpeed bands) with e | e
    · rw [Nat.min_eq_left e]; assumption
    · rw [Nat.min_eq_right e]; assumption
  · have notRunning : m.state ≠ .running := by rcases e with e | e <;> rw [e] <;> decide
    rw [d.g]
    by_cases hr : l.state = .running
    · have := mt d.running.2 notRunning
      exact (Nat.min_le_right _ _).trans (by by_contra hc; exact this ⟨hr, fun e => hc e.2⟩)
    · refine (Nat.min_le_left _ _).trans (paced.crawling ?_)
      have := d.moving
      rcases e with e | e <;> rw [e] at this <;> revert this hr <;> cases l.state <;> simp [LaneState.moving]
  · obtain ⟨hr, hc⟩ := d.running.1 e
    have := paced.running hr
    rw [d.g]
    by_cases hlt : maxSpeed bands < l.g
    · rw [Nat.min_eq_right hlt.le]; by_contra hge; exact hc ⟨hlt, Nat.le_of_not_lt hge⟩
    · rw [Nat.min_eq_left (Nat.le_of_not_lt hlt)]; exact this
  · rw [d.steady.residual] at e
    exact (paced.hold e).imp (kept rfl).2 (kept rfl).2
  · rw [d.steady.residual]; exact paced.broke ((kept rfl).1 e)
  · rw [d.steady.overspeed, d.steady.overCount]; exact paced.unjudged (d.moving ▸ e)
  · rw [d.hotWeb]
    split
    · rfl
    next hn => exact paced.hotWeb fun hr => hn ⟨hr, e⟩
  · rw [d.steady.overCount, d.steady.measured, d.hotWeb]
    refine ⟨paced.counts.1, ?_, paced.counts.2.2⟩
    split
    · exact Nat.zero_le _
    · exact paced.counts.2.1
  · obtain ⟨T, hT⟩ := hadTarget (entry.1 q)
    rw [d.moving]
    exact aimed.moving (aimed.target.2 (by rw [hT]; nofun))
  · obtain ⟨U, hU⟩ := hadTarget (by rw [hT]; nofun)
    obtain ⟨above, mod, -⟩ := aimed.above U hU
    rw [d.target U hU] at hT
    rw [d.g]
    split at hT
    next hle => cases hT; exact ⟨(Nat.min_le_left _ _).trans_lt above, mod, hle⟩
    next =>
      split at hT <;> cases hT
      next hlt => exact ⟨(Nat.min_le_left _ _).trans_lt (Nat.lt_of_not_le hlt), w.maxSpeed_mod, le_refl _⟩
  · obtain ⟨T, hT⟩ := hadTarget (entry.1 q)
    exact aimed.heats (aimed.target.2 (by rw [hT]; nofun))
  · have present {P : Prop} (hP : P → m.lead = none) : ¬P := fun p => by rw [hP p] at he; cases he
    have le : l.g ≤ maxSpeed bands := Nat.le_of_not_lt fun hlt => present d.leadGone (.inl hlt)
    obtain ⟨T, hT⟩ := Option.ne_none_iff_exists'.1 fun e => present d.leadGone (.inr (.inl e))
    obtain ⟨f, hf⟩ := Option.ne_none_iff_exists'.1 fun e => present d.leadGone (.inr (.inr e))
    have rule := d.leadKept le f hf T hT
    split at rule
    · rw [rule] at he; cases he
    next hn =>
      have band : e.band = f.band := by
        have := rule.1
        rw [he] at this
        exact Option.some.inj this
      rw [band, length]
      exact ⟨entry.2 (by rw [hT]; nofun), Nat.lt_of_not_le fun hle => hn (.inr hle), (aimed.lead f hf).2.2⟩

end Sys2Proof.Machine
end

section
/-! PROOF. An evaluation keeps the laws of the lanes, stage after stage (R69 to R78). -/

namespace Sys2Proof.Machine

/-! ## Speeds that the arbiter chooses -/

section
variable {s : State} (g : SpeedGrid s)
include g

theorem SpeedGrid.fittingSpeed_mod {capacity : Nat} {n : LaneId} {u : Nat} (h : s.fittingSpeed capacity n = some u) :
    u % 5 = 0 := by
  unfold State.fittingSpeed at h
  obtain ⟨p, hp, hu⟩ := Option.bind_eq_some_iff.1 h
  have w := g.bandsLaw n
  rw [State.bandsOf, hp] at w
  exact ProfileFields.fittingSpeed_mod w hu

theorem SpeedGrid.withdrawSpeed_mod (capacity : Nat) {n : LaneId} (hg : (s.lane n).g % 5 = 0) :
    s.withdrawSpeed capacity n % 5 = 0 := by
  have crawl := g.crawl.2
  have fit : ((s.fittingSpeed capacity n).getD 0) % 5 = 0 := by
    cases hf : s.fittingSpeed capacity n with
    | none => rfl
    | some u => exact g.fittingSpeed_mod hf
  unfold State.withdrawSpeed
  omega

theorem SpeedGrid.stepDown_mod {v : Nat} (hv : v % 5 = 0) : s.stepDown v % 5 = 0 := by
  have := g.crawl.2
  have := g.ramp.2
  unfold State.stepDown
  omega

theorem SpeedGrid.candidate_mod {n : LaneId} (hg : (s.lane n).g % 5 = 0) {target fit : Nat} (ht : target % 5 = 0)
    (hf : fit % 5 = 0) : s.candidate n target fit % 5 = 0 := by
  have ramp := g.ramp.2
  have bound := (g.bandsLaw n).bandAt_mod ((s.lane n).heatBand (s.bandsOf n))
  unfold State.candidate
  dsimp only
  omega

end

theorem stepDown_le {s : State} {v : Nat} (h : s.cal.values.crawl ≤ v) : s.stepDown v ≤ v :=
  Nat.max_le.2 ⟨h, Nat.sub_le _ _⟩

theorem candidate_le_target (s : State) (n : LaneId) (target fit : Nat) : s.candidate n target fit ≤ target :=
  Nat.min_le_left _ _

/-- A queued lane that no hold keeps is in READY or RUNNING (R66, R67). -/
theorem not_threading_of_unheld {s : State} {n : LaneId} (hq : n ∈ s.arbiter.queue) (hh : s.held n = false) :
    (s.lane n).state ≠ .threading := fun e => by
  have notReady : s.notReady n = true := by simp [State.notReady, e]
  simp [State.held, State.holds, queued_iff.2 hq, notReady] at hh

theorem formEstimate_le (s : State) : s.formEstimate ≤ 999 := by
  unfold State.formEstimate
  split
  · exact Nat.zero_le _
  · split
    · exact le_refl _
    · exact Nat.min_le_left _ _

/-! ## Lowering -/

section
variable {s : State} {n : LaneId} (h : Sound s)
include h

theorem Sound.withdrawTo {g : Nat} (hg : g ≤ (s.lane n).g) (hm : g % 5 = 0) : Sound (s.withdrawTo n g) :=
  (SoundAs.decrease h n hg hm).latchLane _ n

theorem Sound.withdraw (capacity : Nat) (ns lowered : List LaneId) :
    Sound (State.withdraw capacity ns (s, lowered)).1 := by
  induction ns generalizing s lowered with
  | nil => exact h
  | cons n ns ih =>
    unfold State.withdraw
    dsimp only
    split
    · exact h
    · split
      next hlt =>
        exact ih (h.withdrawTo hlt.le (h.grid.withdrawSpeed_mod capacity (h.lane n).paced.step)) _
      next => exact ih h _

theorem Sound.overload : Sound s.overload := by
  refine Sound.requestSafeHold (foldl_keeps (P := Sound) (fun t m ht => ?_) _ h) _
  split
  next hr => exact ht.withdrawTo ((ht.lane m).paced.running hr).le ht.grid.crawl.2
  next => exact ht

/-- A RUNNING lane is lowered by one ramp step, not below crawl (R74, R75). -/
theorem Sound.stepDown (hr : (s.lane n).state = .running) : s.stepDown (s.lane n).g ≤ (s.lane n).g ∧
    s.stepDown (s.lane n).g % 5 = 0 :=
  ⟨stepDown_le ((h.lane n).paced.running hr).le, h.grid.stepDown_mod (h.lane n).paced.step⟩

theorem Sound.excess {k : Nat} (hk : k ≤ 2) : Sound { s with arbiter := { s.arbiter with excess := k } } :=
  SoundAs.beside h rfl rfl rfl rfl rfl ⟨h.counts.peak, hk, h.counts.zeroRun, h.counts.link, h.counts.mask⟩ h.quiet

theorem Sound.analyzerStep (lowered : List LaneId) : Sound (State.analyzerStep (s, lowered)).1 := by
  unfold State.analyzerStep
  dsimp only
  split
  · have used := h.excess (Nat.zero_le 2)
    split
    next m _ e =>
      have first := (head_runningByStamp _ m).1 (by rw [e]; rfl)
      obtain ⟨le, mod⟩ := used.stepDown first.1
      exact used.withdrawTo le mod
    next => exact used
  · exact h

/-- The hot-web count of a RUNNING lane (R75). -/
theorem Sound.recount {k : Nat} (hk : k ≤ 9) (hr : (s.lane n).state = .running) :
    Sound (s.modLane n fun l => { l with hotWeb := k }) :=
  SoundAs.modLane h n
    { (h.lane n).paced with
      hotWeb := fun e => absurd hr e
      counts := ⟨(h.lane n).paced.counts.1, hk, (h.lane n).paced.counts.2.2⟩ } rfl rfl rfl rfl rfl (.inl rfl)

theorem Sound.hotWebStep (lowered : List LaneId) (n : LaneId) : Sound (State.hotWebStep (s, lowered) n).1 := by
  unfold State.hotWebStep
  dsimp only
  split
  next hr =>
    split
    · have zero := h.recount (Nat.zero_le 9) hr
      obtain ⟨le, mod⟩ := zero.stepDown (n := n) (by rw [State.lane_modLane_same]; exact hr)
      exact (SoundAs.decrease zero n le mod).latchLane _ n
    next hk => exact h.recount (Nat.le_of_lt_succ (Nat.lt_of_not_le hk)) hr
  next => exact h

theorem Sound.hotWebSteps (ns lowered : List LaneId) : Sound (ns.foldl State.hotWebStep (s, lowered)).1 := by
  induction ns generalizing s lowered with
  | nil => exact h
  | cons n ns ih => exact ih (h.hotWebStep lowered n) _

/-! ## Service -/

section
variable {T v : Nat} (hT : (s.lane n).target = some T) (hg : (s.lane n).g < v) (hv : v ≤ T) (hm : v % 5 = 0)
  (hs : (s.lane n).state ≠ .threading)
include hT hg hv hm hs

/-- A raise toward the pending target, which goes when it is reached (R48, R77). -/
theorem Sound.raiseToward : Sound (s.raiseToward n v T) := by
  obtain ⟨paced, aimed, -⟩ := h.lane n
  have queued := aimed.target.2 (by rw [hT]; nofun)
  have moving := aimed.moving queued
  obtain ⟨-, -, hmax⟩ := aimed.above T hT
  have ready : (s.lane n).state = .ready ∨ (s.lane n).state = .running := by
    revert moving hs
    cases (s.lane n).state <;> simp [LaneState.moving]
  have raised := paced.raised hg hm (hv.trans hmax) (aimed.heats queued) ready (s.arbiter.stamp + 1) (s.bandsOf n)
  unfold State.raiseToward
  dsimp only
  split
  · have lane : ((s.raise n v).removeTarget n).lane n =
        { (((s.lane n).raised v s.cal.values.crawl (s.arbiter.stamp + 1) (s.bandsOf n)).judged
          ((({ s with arbiter := { s.arbiter with stamp := s.arbiter.stamp + 1 } } : State).modLane n fun l =>
            l.raised v s.cal.values.crawl (s.arbiter.stamp + 1) (s.bandsOf n)).zonesInBand n)).clearLead with
          target := none } := by
      rw [State.lane_removeTarget_same, State.raise, State.lane_settle_same, State.lane_modLane_same]
      rfl
    refine SoundAs.latchLane (SoundAs.settled_key h ((actsOn_raise ..).trans (actsOn_removeTarget ..)) ?_ ?_ ?_) _ n <;>
      rw [lane]
    · exact (Lane.judged_key ..).trans (Lane.sameWeb_raised ..).key
    · exact { raised.judged _ with }
    · exact Lane.aimless (by simp [State.removeTarget_queue]) rfl rfl
  next hne =>
    refine SoundAs.settled_key h ((actsOn_stamp ..).trans (actsOn_modLane ..)) ?_ ?_ ?_ <;> rw [State.lane_modLane_same]
    · exact (Lane.sameWeb_raised ..).key
    · exact raised
    · exact aimed.raised hT (Nat.lt_of_le_of_ne hv hne) _ _

end

/-- A band lead begun at the bound of band(g) (R78). -/
theorem Sound.beginLead {T : Nat} (hT : (s.lane n).target = some T) (hg : (s.lane n).g < T)
    (hb : (s.lane n).g = boundOf (s.bandsOf n) (s.lane n).g) : Sound (s.beginLead n) := by
  obtain ⟨paced, aimed, -⟩ := h.lane n
  refine SoundAs.settled_key h (actsOn_modLane ..) ?_ ?_ ?_ <;> rw [State.lane_modLane_same]
  · exact { paced with }
  · exact
      { aimed with
        lead := fun d hd => by
          cases hd
          exact ⟨aimed.target.2 (by rw [hT]; nofun), Nat.lt_succ_self _,
            bandOf_lt_length hb (hg.trans_le (aimed.above T hT).2.2)⟩ }

theorem Sound.serveLane (capacity : Nat) (hh : s.held n = false) : Sound (s.serveLane capacity n) := by
  unfold State.serveLane
  split
  next T fit hT hf =>
    obtain ⟨-, mod, -⟩ := (h.lane n).aimed.above T hT
    have queued := (h.lane n).aimed.target.2 (by rw [hT]; nofun)
    dsimp only
    split
    next hlt =>
      exact h.raiseToward hT hlt (candidate_le_target ..)
        (h.grid.candidate_mod (h.lane n).paced.step mod (h.grid.fittingSpeed_mod hf)) (not_threading_of_unheld queued hh)
    next =>
      split
      next hc => exact h.beginLead hT hc.2.2.2 hc.2.2.1
      next => exact h
  next => exact h

theorem Sound.serve (capacity : Nat) (lowered ns : List LaneId) : Sound (State.serve capacity lowered ns s) := by
  induction ns generalizing s with
  | nil => exact h
  | cons n ns ih =>
    unfold State.serve
    refine ih ?_
    split
    · exact h
    next hn => exact h.serveLane capacity (by rw [Bool.or_eq_true, not_or, Bool.not_eq_true] at hn; exact hn.1)

/-! ## The whole -/

theorem Sound.holdEstimate : Sound s.holdEstimate :=
  SoundAs.beside h rfl rfl rfl rfl rfl
    ⟨⟨Nat.max_le.2 ⟨h.counts.peak.1, formEstimate_le s⟩, formEstimate_le s⟩, h.counts.excess, h.counts.zeroRun,
      h.counts.link, h.counts.mask⟩ h.quiet

theorem Sound.evaluate : Sound s.evaluate := by
  have withdrawn := h.holdEstimate.withdraw s.holdEstimate.capacity s.holdEstimate.runningByStamp []
  unfold State.evaluate
  dsimp only
  split
  · exact withdrawn.overload
  · have lowered := (withdrawn.analyzerStep (State.withdraw s.holdEstimate.capacity s.holdEstimate.runningByStamp
      (s.holdEstimate, [])).2).hotWebSteps LaneId.all (State.analyzerStep (State.withdraw s.holdEstimate.capacity
        s.holdEstimate.runningByStamp (s.holdEstimate, []))).2
    unfold State.serviceStage
    split
    · exact lowered.serve ..
    · exact lowered

/-! ## The heartbeat -/

theorem Sound.emptyQueue : Sound s.emptyQueue := 
  foldl_keeps (P := Sound) (f := fun t n => (t.removeTarget n).settle n) (fun _ n ht => SoundAs.removed ht n) _ h

theorem Sound.lowerToCrawl : Sound s.lowerToCrawl := by
  refine foldl_keeps (P := Sound) (fun t n ht => ?_) _ h
  split
  next hlt => exact SoundAs.decrease ht n hlt.le ht.grid.crawl.2
  next => exact ht

end

end Sys2Proof.Machine
end

section
/-! PROOF. A property that speaks of the port by its two bounded counts alone, and that every request keeps, is kept by
every command of the line (R128 to R134): the counts saturate (R130). -/

namespace Sys2Proof.Machine

/-- The port's counts in their range (R130, R133). -/
def Port.Counted (p : Port) : Prop := p.discarded ≤ 65535 ∧ p.collisions ≤ 65535

/-- A property that bounds the counts, holds whatever else the port becomes, and is kept by every request. -/
structure CountedInvariant (P : State → Prop) : Prop where
  counted : ∀ {s}, P s → s.port.Counted
  port : ∀ {s t}, P s → PortOnly s t → t.port.Counted → P t
  owner : ∀ {code take s} (body : List Byte), ownerOf code = some take → P s → P (take body s).1

namespace CountedInvariant

variable {P : State → Prop} (hP : CountedInvariant P) {s : State}
include hP

/-! ## The port alone -/

theorem same {t : State} (hs : P s) (h : PortOnly s t)
    (counts : t.port.discarded = s.port.discarded ∧ t.port.collisions = s.port.collisions) : P t :=
  hP.port hs h (by unfold Port.Counted; rw [counts.1, counts.2]; exact hP.counted hs)

theorem discard (hs : P s) (kind : LinkError) : P (s.discard kind) :=
  hP.port hs rfl ⟨Nat.min_le_left _ _, (hP.counted hs).2⟩

theorem hunt (hs : P s) : P s.hunt := hP.same hs rfl ⟨rfl, rfl⟩

theorem setIdle (hs : P s) (ms : Nat) : P (s.setIdle ms) := hP.same hs rfl ⟨rfl, rfl⟩

theorem collide (hs : P s) : P s.collide := hP.port hs rfl ⟨(hP.counted hs).1, Nat.min_le_left _ _⟩

theorem busyLine (hs : P s) : P s.busyLine := by
  unfold State.busyLine
  split
  · exact hP.collide hs
  · exact hs

theorem addCharacter (hs : P s) (rx : List Byte) (c : LineChar) : P (s.addCharacter rx c) := by
  unfold State.addCharacter State.addGood
  split
  · exact hP.discard hs _
  · split
    · exact hP.discard hs _
    · split
      · split
        · exact hP.same hs rfl ⟨rfl, rfl⟩
        · exact hP.discard hs _
      · exact hP.same hs rfl ⟨rfl, rfl⟩

theorem hearInHunt (hs : P s) (gap : Bool) (c : LineChar) : P (s.hearInHunt gap c) := by
  unfold State.hearInHunt
  split
  · exact hP.addCharacter hs _ _
  · exact hs

theorem hearOutside (hs : P s) (gap : Bool) (c : LineChar) : P (s.hearOutside gap c) := by
  unfold State.hearOutside
  split
  · exact hP.busyLine hs
  · split
    · exact hP.hearInHunt (hP.collide hs) ..
    · exact hP.hearInHunt hs ..

/-! ## Frames -/

theorem answerRequest (hs : P s) (code : Byte) (body : List Byte) : P (s.answerRequest code body) := by
  unfold State.answerRequest
  split
  next ht =>
    have taken := hP.owner body ht hs
    exact hP.same taken rfl ⟨rfl, rfl⟩
  next => exact hP.same hs rfl ⟨rfl, rfl⟩

theorem takeBroadcast (hs : P s) (code : Byte) (body : List Byte) : P (s.takeBroadcast code body) := by
  unfold State.takeBroadcast
  split
  · split
    next ht =>
      dsimp only
      split
      · exact hP.hunt (hP.owner body ht hs)
      · exact hP.discard hs _
    next => exact hP.discard hs _
  · exact hP.discard hs _

theorem takeFrame (hs : P s) (dest : FrameTo) (code : Byte) (body : List Byte) : P (s.takeFrame dest code body) := by
  have idle := hP.setIdle hs (gapMs s.port.rate)
  unfold State.takeFrame
  cases dest with
  | other => exact hP.hunt idle
  | broadcast => exact hP.takeBroadcast idle code body
  | station =>
    dsimp only
    split
    · exact hP.hunt idle
    · exact hP.answerRequest idle code body

theorem takeHeld (hs : P s) : P s.takeHeld := by
  unfold State.takeHeld
  split
  · exact hP.takeFrame hs ..
  · exact hP.hunt hs

/-! ## Characters -/

theorem hear (hs : P s) (c : LineChar) : P (s.hear c) := by
  have idle := hP.setIdle hs 0
  unfold State.hear
  split
  · exact hP.busyLine hs
  · dsimp only
    split
    · exact hP.hearOutside idle ..
    · exact hP.hearOutside idle ..
    · split
      · exact hP.hearOutside (hP.discard idle _) ..
      · exact hP.addCharacter idle ..
    · split
      · exact hP.setIdle (hP.hearOutside (hP.takeHeld hs) ..) _
      · exact hP.discard idle _

theorem hearAll (hs : P s) (cs : List LineChar) : P (cs.foldl State.hear s) :=
  foldl_keeps (P := P) (fun _ c h => hP.hear h c) cs hs

theorem hearWithin (hs : P s) (c : LineChar) : P (s.hearWithin c) := by
  unfold State.hearWithin
  split
  · exact hP.busyLine hs
  · exact hP.hear (hP.setIdle hs 0) _

theorem lineIdle (hs : P s) : P s.lineIdle := by
  unfold State.lineIdle
  split
  · exact hs
  · split
    · exact hP.setIdle (hP.discard hs _) _
    · exact hP.takeHeld hs
    · exact hP.setIdle hs _

theorem frameArrives (hs : P s) (dest : FrameTo) (code : Byte) (body : List Byte) :
    P (s.frameArrives dest code body) := by
  have idle := hP.lineIdle hs
  have heard : P (if s.lineIdle.port.state = .answer then s.lineIdle.collide else s.lineIdle) := by
    split
    · exact hP.collide idle
    · exact idle
  unfold State.frameArrives
  dsimp only
  split
  · exact hP.busyLine idle
  · split
    · exact hP.discard heard _
    · exact hP.takeFrame heard ..

/-- Every command of the line keeps the property. -/
theorem exec {i : Instr} {t : State} (hs : P s) (hi : offLine i = false) (h : Machine.exec i s = .next t) : P t := by
  have next {u : State} (hu : P u) (h : Host.Outcome.next u = (.next t : Host.Outcome State Fault Refusal)) : P t := by
    cases h; exact hu
  have test {c : Prop} [Decidable c] {u : State} (hu : P u) : P (if c then u else s) := by
    split
    · exact hu
    · exact hs
  cases i
  case frameDiscard => exact next (hP.hearAll hs _) h
  case shortFrame => exact next (hP.lineIdle (hP.hearAll hs _)) h
  case overlongFrame => exact next (hP.hearWithin (hP.hearAll hs _) _) h
  case answerBegin =>
    refine next (test (c := s.powered = true) (test (c := s.port.state = .answer ∧ s.port.driving = false) ?_)) h
    exact hP.same hs rfl ⟨rfl, rfl⟩
  case answerEnd => exact next (test (test (hP.setIdle (hP.hunt hs) _))) h
  case collision event =>
    refine next (test (test ?_)) h
    cases event with
    | readback => exact test (hP.collide hs)
    | busyLine =>
      dsimp only
      split
      · exact hs
      · exact hP.hearOutside (hP.collide hs) ..
  case linkFree =>
    refine next (test (c := s.powered = true) ?_) h
    exact hP.same hs rfl ⟨rfl, rfl⟩
  case linkFreeRelease =>
    refine next (test (c := s.powered = true) (test (c := s.port.held = true) ?_)) h
    exact hP.same hs rfl ⟨rfl, rfl⟩
  case stationReset | powerOn | powerLoss | evaluation | encoderWindow | flowWindow | purgeFailed | cooldownTimeout
    | residualHoldExpiry | decelGraceExpiry | bandLeadTimeout | readingStale | breakInputChange | confirmedBreak
    | cadencePhaseEnd | masterSilent | slotWriteDone | encoderEdge | flowPulse => cases hi
  all_goals exact next (hP.frameArrives hs ..) h

end CountedInvariant

end Sys2Proof.Machine
end

section
/-! PROOF. Readings taken and readings gone stale keep the laws of the lanes: the in-band state of a lane is behind its
zones only until the lane is judged again (R101, R102, R105). -/

namespace Sys2Proof.Machine

/-! ## Lanes whose judgement is behind -/

/-- The laws, but for the in-band state of the lanes named. -/
structure SoundBut (behind : LaneId → Prop) (H : Prop) (s : State) : Prop where
  grid : SpeedGrid s
  nodup : s.arbiter.queue.Nodup
  paced : ∀ n, (s.lane n).Paced (s.bandsOf n) s.cal.values.crawl H
  aimed : ∀ n, (s.lane n).Aimed (s.bandsOf n) H (n ∈ s.arbiter.queue)
  banded : ∀ n, ¬behind n → (s.lane n).Banded (s.zonesInBand n)
  counts : CountLaw s
  quiet : s.horn.continuous = true → s.horn.cadence = none

theorem SoundAs.but {s : State} {H : Prop} (h : SoundAs H s) (behind : LaneId → Prop) : SoundBut behind H s :=
  ⟨h.grid, h.nodup, fun n => (h.lane n).paced, fun n => (h.lane n).aimed, fun n _ => (h.lane n).banded, h.counts,
    h.quiet⟩

section
variable {s t : State} {behind : LaneId → Prop} {H : Prop} (h : SoundBut behind H s)
include h

theorem SoundBut.sound (hb : ∀ n, ¬behind n) : SoundAs H s :=
  ⟨h.grid, h.nodup, fun n => ⟨h.paced n, h.aimed n, h.banded n (hb n)⟩, h.counts, h.quiet⟩

/-- A change that leaves the lanes, the queue, the table and the calibration, and the zone channels of the lanes that
are not behind. -/
theorem SoundBut.beside (lanes : t.lanes = s.lanes) (queue : t.arbiter.queue = s.arbiter.queue)
    (profiles : t.profiles = s.profiles) (cal : t.cal = s.cal)
    (readings : ∀ n, ¬behind n → ∀ z, t.reading (.zone n z) = s.reading (.zone n z)) (counts : CountLaw t)
    (quiet : t.horn.continuous = true → t.horn.cadence = none) : SoundBut behind H t := by
  have lane (n : LaneId) : t.lane n = s.lane n := State.lane_congr lanes n
  have bands (n : LaneId) : t.bandsOf n = s.bandsOf n := (SameProfile.of_eq profiles).bandsOf (by rw [lane])
  exact
    { grid := ⟨cal ▸ h.grid.crawl, cal ▸ h.grid.ramp, by unfold ProfilesLaw; rw [profiles]; exact h.grid.profiles⟩
      nodup := queue ▸ h.nodup
      paced := fun n => by rw [lane, bands, cal]; exact h.paced n
      aimed := fun n => by rw [lane, bands, queue]; exact h.aimed n
      banded := fun n hn => by
        rw [lane, (SameProfile.of_eq profiles).zonesInBand (by rw [lane]) (fun _ => by rw [lane]) (readings n hn)]
        exact h.banded n hn
      counts := counts
      quiet := quiet }

/-- A judgement brings its lane up. -/
theorem SoundBut.settle (n : LaneId) : SoundBut (fun m => behind m ∧ m ≠ n) H (s.settle n) := by
  have a := actsOn_settle s n
  have other {m : LaneId} (hm : m ≠ n) : (s.settle n).lane m = s.lane m := a.lane_other hm
  have key (m : LaneId) : ((s.settle n).lane m).key = (s.lane m).key := by
    by_cases hm : m = n
    · rw [hm, State.lane_settle_same, Lane.judged_key]
    · rw [other hm]
  have bands (m : LaneId) : (s.settle n).bandsOf m = s.bandsOf m :=
    (SameProfile.of_eq (s := s) (t := s.settle n) rfl).bandsOf (key m)
  refine ⟨a.grid h.grid, h.nodup, fun m => ?_, fun m => ?_, fun m hm => ?_, h.counts.congr rfl rfl rfl rfl rfl rfl,
    h.quiet⟩
  · rw [bands]
    by_cases e : m = n
    · rw [e, State.lane_settle_same]; exact (h.paced n).judged _
    · rw [other e]; exact h.paced m
  · rw [bands]
    by_cases e : m = n
    · rw [e, State.lane_settle_same]; exact (h.aimed n).judged _
    · rw [other e]; exact h.aimed m
  · by_cases e : m = n
    · rw [e]; exact banded_settle (h.paced n).keyed.1
    · rw [State.zonesInBand_congr (s := s) (key m) (fun _ => by rw [other e]) rfl rfl rfl, other e]
      exact h.banded m fun hb => hm ⟨hb, e⟩

theorem SoundBut.mono {behind' : LaneId → Prop} (hb : ∀ n, behind n → behind' n) : SoundBut behind' H s :=
  { h with banded := fun n hn => h.banded n fun e => hn (hb n e) }

theorem SoundBut.setReading {c : Channel} (hc : ∀ n z, c = .zone n z → behind n) (r : Reading) :
    SoundBut behind H (s.setReading c r) :=
  h.beside (State.setReading_lanes ..) (by simp) (State.setReading_profiles ..) (State.setReading_cal ..)
    (fun n hn z => State.reading_setReading_other _ _ fun e => hn (hc n z e.symm))
    (h.counts.congr (by simp) (by simp) (by simp) (by simp) (by simp) (by simp)) (by simpa using h.quiet)

theorem SoundBut.latchLane (c : Cause) (n : LaneId) : SoundBut behind H (s.latchLane c n) :=
  h.beside rfl rfl rfl rfl (fun _ _ _ => rfl) (h.counts.congr rfl rfl rfl rfl rfl rfl) h.quiet

theorem SoundBut.latchStale (c : Channel) : SoundBut behind H (s.latchStale c) := by
  unfold State.latchStale
  split
  · exact h.latchLane ..
  · exact h.beside rfl rfl rfl rfl (fun _ _ _ => rfl) (h.counts.congr rfl rfl rfl rfl rfl rfl) h.quiet

/-! ## Readings taken -/

theorem SoundBut.judgeCut (p : Channel × Int) : SoundBut behind H (s.judgeCut p) := by
  have cut (n : LaneId) (z : ZoneId) (v : Bool) : SoundBut behind H (s.setCut n z v) :=
    h.beside rfl rfl rfl rfl (fun _ _ _ => rfl) (h.counts.congr rfl rfl rfl rfl rfl rfl) h.quiet
  unfold State.judgeCut
  split
  · unfold State.cutTest
    split
    · split
      · exact cut ..
      · exact h
    · split
      · exact (cut ..).latchLane ..
      · exact h
  · exact h

end

/-- The lanes with a zone channel among the pairs. -/
def zonesTaken (pairs : List (Channel × Int)) (n : LaneId) : Prop := ∃ p ∈ pairs, ∃ z, p.1 = .zone n z

section
variable {s : State} {H : Prop}

theorem SoundBut.takeValues {pairs ps : List (Channel × Int)} (hps : ps ⊆ pairs)
    (h : SoundBut (zonesTaken pairs) H s) : SoundBut (zonesTaken pairs) H (ps.foldl State.takeValue s) := by
  induction ps generalizing s with
  | nil => exact h
  | cons p ps ih =>
    refine ih (List.subset_of_cons_subset hps) (h.setReading (fun n z e => ⟨p, hps List.mem_cons_self, z, e⟩) _)

theorem SoundBut.judgeBands {pairs : List (Channel × Int)} (h : SoundBut (zonesTaken pairs) H s) :
    SoundAs H (pairs.foldl State.judgeBand s) := by
  induction pairs generalizing s with
  | nil => exact h.sound fun n ⟨p, hp, _⟩ => List.not_mem_nil hp
  | cons p ps ih =>
    refine ih ?_
    unfold State.judgeBand
    split
    next n z e =>
      refine (h.settle n).mono ?_
      rintro m ⟨⟨q, hq, y, hy⟩, hm⟩
      rcases List.mem_cons.1 hq with rfl | hq
      · exact absurd (Channel.zone.inj (hy.symm.trans e)).1 hm
      · exact ⟨q, hq, y, hy⟩
    next hz =>
      refine h.mono ?_
      rintro m ⟨q, hq, y, hy⟩
      rcases List.mem_cons.1 hq with rfl | hq
      · exact absurd hy (hz m y)
      · exact ⟨q, hq, y, hy⟩

end

theorem takeReadings_dryer (s : State) (pairs : List (Channel × Int)) :
    (pairs.foldl State.judgeBand (pairs.foldl State.judgeCut (pairs.foldl State.takeValue s))).dryer = s.dryer := by
  have value (t : State) (p : Channel × Int) : (t.takeValue p).dryer = t.dryer := State.setReading_dryer ..
  have cut (t : State) (p : Channel × Int) : (t.judgeCut p).dryer = t.dryer := by
    unfold State.judgeCut State.cutTest
    split
    · split <;> split <;> rfl
    · rfl
  have band (t : State) (p : Channel × Int) : (t.judgeBand p).dryer = t.dryer := by
    unfold State.judgeBand
    split <;> rfl
  have walk {f : State → Channel × Int → State} (hf : ∀ t p, (f t p).dryer = t.dryer) (t : State) :
      (pairs.foldl f t).dryer = t.dryer :=
    foldl_keeps (P := fun u => u.dryer = t.dryer) (fun u p hu => (hf u p).trans hu) pairs rfl
  rw [walk band, walk cut, walk value]

theorem SoundAs.sound {s t : State} (h : SoundAs (s.dryer.state = .heating) t) (hd : t.dryer = s.dryer) : Sound t := by
  rw [Sound, hd]
  exact h

section
variable {s : State} (h : Sound s)
include h

theorem Sound.judgeAnalyzer (p : Channel × Int) : Sound (s.judgeAnalyzer p) := by
  unfold State.judgeAnalyzer
  split
  · split
    · have stepped (v : Int) : Sound (s.stepExcess v) := by
        refine h.excess ?_
        split
        · exact Nat.min_le_left _ _
        · exact Nat.zero_le _
      unfold State.judgeHigh
      split
      · exact (SoundAs.sound (SoundAs.latch (stepped _) _) (State.latch_dryer ..)).requestSafeHold _
      · exact stepped _
    · exact h
  · exact h

theorem Sound.takeReadings (pairs : List (Channel × Int)) : Sound (s.takeReadings pairs) := by
  have taken := (SoundAs.but h (zonesTaken pairs)).takeValues (List.Subset.refl pairs)
  have judged := (foldl_keeps (P := SoundBut (zonesTaken pairs) (s.dryer.state = .heating))
    (fun _ p hp => hp.judgeCut p) pairs taken).judgeBands.sound (takeReadings_dryer s pairs)
  have limited {t : State} (ht : Sound t) :
      Sound (if !(s.reading .analyzer).fresh && (t.reading .analyzer).fresh then t.reformLimit else t) := by
    split
    · exact SoundAs.reformLimit ht
    · exact ht
  have analyzed := foldl_keeps (P := Sound) (fun _ p hu => hu.judgeAnalyzer p) pairs (limited judged)
  unfold State.takeReadings
  dsimp only
  split
  · exact analyzed.testCool
  · exact analyzed

theorem Sound.clearExcess : Sound s.clearExcess := by
  unfold State.clearExcess
  split
  · exact h.excess (Nat.zero_le 2)
  · exact h

end

/-! ## Readings gone stale -/

/-- A channel goes stale, its lane's judgement being behind if it is a zone's. -/
theorem SoundBut.goStale {s : State} {c : Channel}
    (h : SoundBut (fun n => ∃ z, c = .zone n z) (s.dryer.state = .heating) s) : Sound (s.goStale c) := by
  have told := (h.setReading (fun n z e => ⟨z, e⟩) { s.reading c with fresh := false }).latchStale c
  have dryer : ((s.setReading c { s.reading c with fresh := false }).latchStale c).dryer = s.dryer :=
    (keepsAllBut_toldStale (s := s) (c := c)).1 .dryer (by simp)
  unfold State.goStale
  dsimp only
  split
  next n z =>
    exact Sound.testCool (((told.settle n).sound fun m ⟨⟨y, e⟩, hm⟩ => hm (Channel.zone.inj e).1.symm).sound dryer)
  next => exact Sound.clearExcess (SoundAs.sound (told.sound fun n ⟨z, e⟩ => by cases e).reformLimit dryer)
  next hz _ => exact (told.sound fun n ⟨z, e⟩ => hz n z e).sound dryer

end Sys2Proof.Machine
end

section
/-! PROOF. The requests keep the laws of the lanes: the profile table changes at no lane's fields but by a trim (R10, R11,
R18, R22, R23), and a calibration comes while every lane stands still (R152). -/

namespace Sys2Proof.Machine

/-! ## The profile table -/

theorem SpeedGrid.congr {s t : State} (g : SpeedGrid t) (profiles : t.profiles = s.profiles)
    (cal : t.cal.values = s.cal.values) : SpeedGrid s :=
  ⟨cal ▸ g.crawl, cal ▸ g.ramp, by have := g.profiles; unfold ProfilesLaw at this; rwa [profiles] at this⟩

section
variable {s t : State} {n : LaneId}

/-- A record whose fields stay takes the place of another. -/
theorem sameProfile_replace {p q : Profile} (hp : findProfile s.profiles p.key = some p)
    (ht : t.profiles = replaceProfile s.profiles q) (hq : q.toProfileFields = p.toProfileFields) :
    SameProfile s t n := fun k _ => by
  have key : q.key = p.key := congrArg ProfileFields.key hq
  rw [ht]
  by_cases e : k = p.key
  · rw [e, hp, ← key, findProfile_replaceProfile_same (by rw [key, hp]; rfl)]
    exact congrArg some hq
  · rw [findProfile_replaceProfile_other _ (by rw [key]; exact e)]

/-- A record leaves that no lane is bound to afterwards. -/
theorem sameProfile_remove {k : Nat} (ht : t.profiles = removeProfile s.profiles k) (l : BindingLaw t)
    (key : (t.lane n).key = (s.lane n).key) : SameProfile s t n := fun j hj => by
  have present := l.present n j (key.trans hj)
  rw [ht] at present ⊢
  by_cases e : j = k
  · rw [e, findProfile_removeProfile_same] at present; cases present
  · rw [findProfile_removeProfile_other _ e]

/-- The table changes at keys that the lane does not carry. -/
theorem sameProfile_other (ht : ∀ k, (s.lane n).key = some k → findProfile t.profiles k = findProfile s.profiles k) :
    SameProfile s t n := fun k hk => by rw [ht k hk]

end

/-- A change of the table, the marks and the commit that changes no lane's fields. -/
theorem Sound.table {s t : State} (h : Sound s) (hr : SpeedGrid t) (ht : KeepsAllBut [.profiles, .marks, .commit] s t)
    (same : ∀ n, SameProfile s t n) : Sound t := by
  have arbiter : t.arbiter = s.arbiter := ht.1 .arbiter (by simp)
  have cal : t.cal = s.cal := ht.1 .cal (by simp)
  have dryer : t.dryer = s.dryer := ht.1 .dryer (by simp)
  have horn : t.horn = s.horn := ht.1 .horn (by simp)
  have load : t.load = s.load := ht.1 .load (by simp)
  have exhaust : t.exhaust = s.exhaust := ht.1 .exhaust (by simp)
  have attention : t.attention = s.attention := ht.1 .attention (by simp)
  refine SoundAs.sound (s := s) ⟨hr, arbiter ▸ h.nodup, fun n => (SoundAs.lane h n).congr (ht.1 (.lane n) (by simp))
    (by rw [arbiter]) (same n) (fun _ => reading_congr (ht.1 .readings (by simp)) _) (by rw [cal]), ?_, ?_⟩ dryer
  · exact h.counts.congr (by rw [load]) (by rw [load]) (by rw [arbiter]) (by rw [exhaust]) (ht.1 .port (by simp))
      (by rw [attention])
  · rw [horn]; exact h.quiet

theorem keepsAllBut_profiles (s : State) (ps : List Profile) (marks : BitVec 48) (commit : Option Commit) :
    KeepsAllBut [.profiles, .marks, .commit] s { s with profiles := ps, marks := marks, commit := commit } :=
  ⟨fun p hp => by cases p <;> first | rfl | simp at hp, rfl⟩

section
variable {s : State} (h : Sound s) (body : List Byte)
include h

/-! ## Requests on the table -/

theorem Sound.pwrite (l : BindingLaw s) : SpeedGrid (takePwrite body s).1 → Sound (takePwrite body s).1 := by
  have same (_ : SpeedGrid s) : Sound s := h
  unfold takePwrite
  split
  · exact same
  · split
    · exact same
    · split
      · exact same
      · split
        · exact same
        · split
          · exact same
          next b _ _ _ _ =>
            split
            · exact same
            · unfold State.writeProfile
              split
              next p hp =>
                split
                · exact same
                · split
                  · exact same
                  next hb =>
                    intro hr
                    refine h.table hr (keepsAllBut_profiles ..) fun n => sameProfile_other fun k hk => ?_
                    have free := l.ne_key (findProfile_mem hp) (Nat.eq_zero_of_not_pos hb) hk
                    exact findProfile_replaceProfile_other _ (by rwa [findProfile_key hp] at free)
              next hnone =>
                split
                · exact same
                · intro hr
                  refine h.table hr (keepsAllBut_profiles ..) fun n => sameProfile_other fun k hk => ?_
                  refine findProfile_insertProfile_other _ fun (e : k = b.fields.key) => ?_
                  have present := l.present n k hk
                  rw [e, hnone] at present
                  cases present

theorem Sound.pretire (l : BindingLaw (takePretire body s).1) :
    SpeedGrid (takePretire body s).1 → Sound (takePretire body s).1 := by
  have same (_ : SpeedGrid s) : Sound s := h
  revert l
  unfold takePretire
  split
  · exact fun _ => same
  · split
    · split
      · exact fun _ => same
      next p hp =>
        unfold State.retire
        split
        · exact fun _ => same
        · split
          · intro l hr
            exact h.table hr (keepsAllBut_profiles ..) fun n => sameProfile_remove rfl l rfl
          · intro _ hr
            exact h.table hr (keepsAllBut_profiles ..) fun n => sameProfile_replace (findProfile_self hp) rfl rfl
    · exact fun _ => same

/-- A lane threaded stands still in THREADING, or READY (R46, R47). -/
theorem Sound.thread {n : LaneId} (hu : (s.lane n).state = .unthreaded) (k : Nat) : Sound (s.thread n k) := by
  obtain ⟨paced, aimed, -⟩ := SoundAs.lane h n
  have unqueued : n ∉ s.arbiter.queue := fun hn => by have := aimed.moving hn; rw [hu] at this; cases this
  have a := (actsOn_modLane s n fun l => l.threaded k).trans (actsOn_checkInput _ n)
  have lane : ((s.modLane n fun l => l.threaded k).checkInput n).lane n = (s.lane n).threaded k := by
    rw [State.lane_checkInput, State.lane_modLane_same]
  have arbiter : ((s.modLane n fun l => l.threaded k).checkInput n).arbiter = s.arbiter :=
    (keepsAllBut_checkInput _ n).1 .arbiter (by simp)
  refine SoundAs.sound (s := s) (SoundAs.settled h a ?_ ?_) a.dryer <;> rw [lane]
  · exact
      { keyed := iff_of_false nofun nofun
        step := rfl
        atMostMax := Nat.zero_le _
        stopped := nofun
        onlyHeating := fun _ => rfl
        crawling := fun _ => Nat.zero_le _
        running := nofun
        hold := fun e => absurd rfl e
        broke := nofun
        unjudged := nofun
        hotWeb := fun _ => paced.hotWeb (by rw [hu]; decide)
        counts := paced.counts }
  · rw [arbiter]
    exact Lane.aimless unqueued rfl rfl

theorem Sound.bindThread {n : LaneId} (hu : (s.lane n).state = .unthreaded) {p : Profile}
    (hp : findProfile s.profiles p.key = some p) (k : Nat) :
    let bound : State := { s with profiles := replaceProfile s.profiles { p with bindCount := p.bindCount + 1 } }
    SpeedGrid (bound.thread n k).reform → Sound (bound.thread n k).reform := by
  intro bound hg
  have kept := keepsAllBut_thread bound n k
  have grid : SpeedGrid bound :=
    hg.congr (kept.1 .profiles (by simp)) (congrArg CalRecord.values (kept.1 .cal (by simp)))
  have sound : Sound bound := h.table grid (keepsAllBut_profiles ..) fun m => sameProfile_replace hp rfl rfl
  exact SoundAs.reform (sound.thread hu k)

theorem Sound.lthrd : SpeedGrid (takeLthrd body s).1 → Sound (takeLthrd body s).1 := by
  have same (_ : SpeedGrid s) : Sound s := h
  unfold takeLthrd
  split
  · split
    · exact same
    next n _ =>
      split
      · exact same
      next hu =>
        split
        · split
          · exact same
          next hb =>
            obtain ⟨p, hp, -, rfl, -⟩ := bind_eq_ok.1 hb
            exact h.bindThread (not_not.1 hu) (findProfile_self hp) _
        · exact same
  · exact same

end

end Sys2Proof.Machine
end

section
/-! PROOF. A lane let go and a profile trimmed keep the laws of the lanes (R11, R22, R57, R60). -/

namespace Sys2Proof.Machine

/-! ## LUNTH -/

/-- What an unbinding leaves of a lane's profile (R11). -/
theorem sameProfile_unbind {s t : State} {k : Nat} {n : LaneId} (ht : t.profiles = (s.unbind k).1.profiles)
    (l : BindingLaw t) (key : (t.lane n).key = (s.lane n).key) : SameProfile s t n := by
  cases hp : findProfile s.profiles k with
  | none => exact .of_eq (by rw [ht, unbind_none hp])
  | some p =>
    rcases unbind_cases hp with ⟨-, -, e⟩ | ⟨-, e⟩ <;> rw [e] at ht
    · exact sameProfile_remove ht l key
    · exact sameProfile_replace (findProfile_self hp) ht rfl

theorem unbind_mask (s : State) (k : Nat) : (s.unbind k).1.attention.mask = s.attention.mask := by
  cases hp : findProfile s.profiles k with
  | none => rw [unbind_none hp]
  | some p =>
    rcases unbind_cases hp with ⟨-, -, e⟩ | ⟨-, e⟩
    · rw [e]; rfl
    · rw [e]

/-- A lane record let go of stands still with no key (R57). -/
theorem Lane.Paced.letGo {l : Lane} {bands : List Band} {crawl : Nat} {H : Prop} (h : l.Paced bands crawl H)
    (hr : l.residual = none) (graceMs : Nat) (bands' : List Band) :
    (({ l.clearLead with target := none } : Lane).unthread graceMs).Paced bands' crawl H where
  keyed := iff_of_true rfl rfl
  step := rfl
  atMostMax := Nat.zero_le _
  stopped _ := rfl
  onlyHeating _ := rfl
  crawling e := by rcases e with e | e <;> cases e
  running := nofun
  hold e := absurd hr e
  broke := nofun
  unjudged _ := ⟨rfl, rfl⟩
  hotWeb _ := by
    show (if l.state = .running then 0 else l.hotWeb) = 0
    split
    · rfl
    next e => exact h.hotWeb e
  counts := by
    refine ⟨Nat.zero_le _, ?_, h.counts.2.2⟩
    show (if l.state = .running then 0 else l.hotWeb) ≤ 9
    split
    · exact Nat.zero_le _
    · exact h.counts.2.1

section
variable {s : State} (h : Sound s)
include h

theorem Sound.unthread {n : LaneId} (hr : (s.lane n).residual = none) (k : Nat) (hg : SpeedGrid (s.unthread n k).1)
    (l : BindingLaw (s.unthread n k).1) : Sound (s.unthread n k).1 := by
  have kept := keepsAllBut_unthread s n k
  have lane := lane_unthread s n k
  have arbiter := arbiter_unthread s n k
  have cal : (s.unthread n k).1.cal = s.cal := kept.1 .cal (by simp)
  have load : (s.unthread n k).1.load = s.load := kept.1 .load (by simp)
  have exhaust : (s.unthread n k).1.exhaust = s.exhaust := kept.1 .exhaust (by simp)
  have horn : (s.unthread n k).1.horn = s.horn := kept.1 .horn (by simp)
  have mask : (s.unthread n k).1.attention.mask = s.attention.mask := unbind_mask (s.letGo n) k
  have queue (m : LaneId) : m ∈ (s.unthread n k).1.arbiter.queue ↔ m ∈ s.arbiter.queue ∧ m ≠ n := by
    rw [arbiter]; simp [List.mem_filter]
  refine SoundAs.sound (s := s) ⟨hg, ?_, fun m => ?_, ?_, by rw [horn]; exact h.quiet⟩ (kept.1 .dryer (by simp))
  · rw [arbiter]
    exact h.nodup.filter _
  · by_cases hm : m = n
    · subst hm
      constructor <;> rw [lane]
      · rw [cal]
        exact { (SoundAs.lane h m).paced.letGo hr s.graceMs _ with }
      · exact Lane.aimless (fun e => ((queue m).1 e).2 rfl) rfl rfl
      · refine ⟨?_, nofun, nofun, nofun⟩
        exact (zonesInBand_eq_none.2 (by rw [lane]; rfl)).symm
    · have same : (s.unthread n k).1.lane m = s.lane m := kept.1 (.lane m) (by simp [hm])
      have before : (s.letGo n).lane m = s.lane m := (keepsAllBut_letGo s n).1 (.lane m) (by simp [hm])
      have table : SameProfile s (s.unthread n k).1 m := fun j hj =>
        sameProfile_unbind (s := s.letGo n) (t := (s.unthread n k).1) (k := k) rfl l (by rw [same, before]) j
          (by rw [before]; exact hj)
      exact (SoundAs.lane h m).congr same (by rw [queue]; simp [hm]) table
        (fun _ => reading_congr (kept.1 .readings (by simp)) _) (by rw [cal])
  · exact h.counts.congr (by rw [load]) (by rw [load]) (by rw [arbiter]) (by rw [exhaust]) (kept.1 .port (by simp)) mask

variable (body : List Byte)

theorem Sound.lunth (l : BindingLaw (takeLunth body s).1) :
    SpeedGrid (takeLunth body s).1 → Sound (takeLunth body s).1 := by
  have same (_ : SpeedGrid s) : Sound s := h
  revert l
  unfold takeLunth
  split
  · split
    · exact fun _ => same
    next n _ =>
      dsimp only
      split
      · exact fun _ => same
      next hs =>
        split
        · exact fun _ => same
        next hr =>
          intro l hg
          have residual : (s.lane n).residual = none := by
            by_contra e
            rcases (SoundAs.lane h n).paced.hold e with b | b
            · exact hr (.inl b)
            · exact hr (.inr ⟨b, Option.isSome_iff_ne_none.2 e⟩)
          exact SoundAs.reform (h.unthread residual _ (hg.congr rfl rfl) ⟨l.keyed, l.present, l.counted, l.retiring⟩)
  · exact fun _ => same

end

/-! ## PTRIM -/

/-- A trim item leaves the number of bands (R20). -/
theorem applyItem_bands {f g : ProfileFields} {i : TrimItem} (h : f.applyItem i = some g) :
    g.bands.length = f.bands.length := by
  cases i <;> simp only [ProfileFields.applyItem, Option.ite_none_right_eq_some, Option.some.injEq,
    Option.map_eq_some_iff, reduceCtorEq] at h
  case setBandField => obtain ⟨-, b, -, rfl⟩ := h; exact List.length_modify ..
  case setBandBound => obtain ⟨-, rfl⟩ := h; exact List.length_modify ..
  case clearOverride => subst h; rfl
  all_goals obtain ⟨-, rfl⟩ := h; rfl

theorem trimmed_bands {f g : ProfileFields} {items : List TrimItem} (h : f.trimmed items = .ok g) :
    g.bands.length = f.bands.length := by
  have walk {k : Nat} (h : f.applyItems k items = .ok g) : g.bands.length = f.bands.length := by
    clear * - h
    induction items generalizing f k with
    | nil => cases h; rfl
    | cons i is ih =>
      unfold ProfileFields.applyItems at h
      split at h
      · cases h
      next hi => exact (ih h).trans (applyItem_bands hi)
  exact walk (trimmed_eq_ok.1 h).1

theorem bandsOf_of_key {s : State} {n : LaneId} {k : Nat} {p : Profile} (hk : (s.lane n).key = some k)
    (hp : findProfile s.profiles k = some p) : s.bandsOf n = p.bands := by
  unfold State.bandsOf State.profileOf
  rw [hk]
  dsimp only
  rw [hp]
  rfl

/-- A lane of the key is judged by its zones as the last of its trim. -/
theorem banded_trimLanes {key : Nat} {bands : List Band} {s : State} {n : LaneId} (hk : (s.lane n).key = some key)
    (hq : (s.lane n).lead ≠ none → (s.lane n).target ≠ none) {ns : List LaneId} (hns : ns.Nodup) (hn : n ∈ ns) :
    ((ns.foldl (State.trimBound key bands) s).lane n).Banded ((ns.foldl (State.trimBound key bands) s).zonesInBand n) := by
  induction ns generalizing s with
  | nil => simp at hn
  | cons m ns ih =>
    obtain ⟨hm, hns⟩ := List.nodup_cons.1 hns
    rw [List.foldl_cons]
    by_cases e : n = m
    · subst e
      have rest := keepsAllBut_trimLanes (key := key) (bands := bands) (s.trimBound key bands n) ns
      have lane : _ = (s.trimBound key bands n).lane n := rest.1 (.lane n) (by simpa using hm)
      rw [State.zonesInBand_congr (congrArg Lane.key lane) (fun bs => congrArg (·.heatBand bs) lane)
        (rest.1 .profiles (by simp)) (rest.1 .readings (by simp)) (rest.1 .cal (by simp)), lane,
        show s.trimBound key bands n = s.trimLane bands n from if_pos hk]
      have trimmed := (trimmed_trimLane s n bands hq).steady.key
      refine banded_settle fun none => ?_
      rw [State.trimLane, State.lane_settle_same, Lane.judged_key, none, hk] at trimmed
      cases trimmed
    · have lane : (s.trimBound key bands m).lane n = s.lane n :=
        (keepsAllBut_trimBound (key := key) (bands := bands) s m).1 (.lane n) (by simp [e])
      exact ih (by rw [lane, hk]) (by rwa [lane]) hns ((List.mem_cons.1 hn).resolve_left e)

section
variable {s : State} (h : Sound s)
include h

/-- The record trimmed and every lane of its key dealt with and judged (R22, R60). -/
theorem Sound.trimmed {p : Profile} {f : ProfileFields} {t : State} (hp : findProfile s.profiles p.key = some p)
    (key : f.key = p.key) (length : f.bands.length = p.bands.length) (grid : SpeedGrid t)
    (trim : LanesTrimmed (s.trimmedTable p f) t p.key f.bands)
    (banded : ∀ n, (s.lane n).key = some p.key → (t.lane n).Banded (t.zonesInBand n)) : Sound t := by
  obtain ⟨kept, unbound, bound, follows⟩ := trim
  have all := ((keepsAllBut_trimmedTable s p f).mono (large := .arbiter :: .profiles :: .marks :: everyLane)
    (by decide)).trans (kept.mono (by decide))
  have cal : t.cal = s.cal := all.1 .cal (by decide)
  have load : t.load = s.load := all.1 .load (by decide)
  have exhaust : t.exhaust = s.exhaust := all.1 .exhaust (by decide)
  have attention : t.attention = s.attention := all.1 .attention (by decide)
  have horn : t.horn = s.horn := all.1 .horn (by decide)
  have readings : t.readings = s.readings := all.1 .readings (by decide)
  have profiles : t.profiles = replaceProfile s.profiles { p with toProfileFields := f, revision := p.revision + 1 } :=
    kept.1 .profiles (by decide)
  have arbiter : t.arbiter = { s.arbiter with queue := s.arbiter.queue.filter fun n => (t.lane n).target ≠ none } :=
    follows.arbiter
  have queue (n : LaneId) : n ∈ t.arbiter.queue ↔ n ∈ s.arbiter.queue ∧ (t.lane n).target ≠ none := by
    rw [arbiter]; simp [List.mem_filter]
  have found : findProfile t.profiles p.key = some { p with toProfileFields := f, revision := p.revision + 1 } := by
    rw [profiles, ← key]
    exact findProfile_replaceProfile_same (p := { p with toProfileFields := f, revision := p.revision + 1 })
      (by rw [show ({ p with toProfileFields := f, revision := p.revision + 1 } : Profile).key = p.key from key, hp]; rfl)
  refine SoundAs.sound (s := s) ⟨grid, ?_, fun n => ?_, ?_, by rw [horn]; exact h.quiet⟩ (all.1 .dryer (by decide))
  · rw [arbiter]
    exact h.nodup.filter _
  · obtain ⟨paced, aimed, -⟩ := SoundAs.lane h n
    by_cases hk : (s.lane n).key = some p.key
    · obtain ⟨d, -⟩ := bound n hk
      have bands : t.bandsOf n = f.bands := bandsOf_of_key (d.steady.key.trans hk) found
      have old : s.bandsOf n = p.bands := bandsOf_of_key hk hp
      obtain ⟨paced', aimed'⟩ := d.sound (queued' := n ∈ t.arbiter.queue) paced aimed (bands ▸ grid.bandsLaw n)
        (length.trans (congrArg List.length old).symm)
        ((queue n).trans ⟨And.right, fun e => ⟨aimed.target.2 (mt (follows.lost n) e), e⟩⟩)
      refine ⟨?_, ?_, banded n hk⟩
      · rw [bands, cal]; exact paced'
      · rw [bands]; exact aimed'
    · have lane : t.lane n = s.lane n := unbound n hk
      refine (SoundAs.lane h n).congr lane ?_ ?_ (fun _ => reading_congr readings _) (by rw [cal])
      · rw [queue, lane]
        exact and_iff_left_of_imp aimed.target.1
      · refine sameProfile_other fun k hk' => ?_
        rw [profiles]
        refine findProfile_replaceProfile_other _ ?_
        rintro rfl
        exact hk (hk'.trans (congrArg some key))
  · exact h.counts.congr (by rw [load]) (by rw [load]) (by rw [arbiter]) (by rw [exhaust])
      (all.1 .port (by decide)) (by rw [attention])

theorem Sound.acceptTrim {p : Profile} {f : ProfileFields} (hp : findProfile s.profiles p.key = some p)
    (key : f.key = p.key) (length : f.bands.length = p.bands.length) :
    SpeedGrid (s.acceptTrim p f).1 → Sound (s.acceptTrim p f).1 := by
  rw [acceptTrim_eq]
  intro hg
  have q := h.queueLaw
  have sound : Sound ((s.trimmedTable p f).trimLanes p.key f.bands) :=
    h.trimmed hp key length (hg.congr rfl rfl)
      (lanesTrimmed (s := s.trimmedTable p f) (fun n => (q.target n).1) q.lead_target p.key f.bands)
      fun n hk => banded_trimLanes (s := s.trimmedTable p f) (ns := LaneId.all) hk (q.lead_target n) (by decide)
        (by cases n <;> decide)
  exact SoundAs.reform sound

theorem Sound.ptrim (body : List Byte) : SpeedGrid (takePtrim body s).1 → Sound (takePtrim body s).1 := by
  have same (_ : SpeedGrid s) : Sound s := h
  unfold takePtrim
  split
  · exact same
  · split
    · exact same
    · split
      · exact same
      · split
        · exact same
        · unfold State.trimProfile
          split
          · exact same
          next p hp =>
            split
            · exact same
            · split
              · exact same
              next f hf => exact h.acceptTrim (findProfile_self hp) (trimmed_key hf) (trimmed_bands hf)

end

end Sys2Proof.Machine
end

section
/-! PROOF. Every request keeps the laws of the lanes (R51 to R58, R86, R91, R100, R115, R141 to R143, R147, R152). -/

namespace Sys2Proof.Machine

/-- A lane that returns from BROKEN (R56). -/
theorem Lane.Paced.returned {l : Lane} {bands : List Band} {crawl : Nat} {H : Prop} (h : l.Paced bands crawl H)
    (hl : l.state = .broken) {state : LaneState} (hs : state = .threading ∨ state = .suspended) :
    ({ l with state := state } : Lane).Paced bands crawl H := by
  have key : l.key ≠ none := by rw [Ne, h.keyed, hl]; decide
  have g : l.g = 0 := h.stopped (by rw [hl]; rfl)
  have residual : ¬l.residual ≠ none := fun e => by rcases h.hold e with e | e <;> rw [hl] at e <;> cases e
  have judged := h.unjudged (by rw [hl]; rfl)
  have hotWeb := h.hotWeb (by rw [hl]; decide)
  rcases hs with rfl | rfl
  all_goals exact
    { h with
      keyed := iff_of_false key nofun
      stopped := fun _ => g
      crawling := fun _ => g.trans_le (Nat.zero_le _)
      running := nofun
      hold := fun e => absurd e residual
      broke := nofun
      unjudged := fun _ => judged
      hotWeb := fun _ => hotWeb }

theorem actsOn_takeTargetNow (s : State) (n : LaneId) (t : Nat) : ActsOn n s (s.takeTargetNow n t) := by
  unfold State.takeTargetNow
  split
  · exact (actsOn_decrease ..).trans (actsOn_removeTarget ..)
  · split
    · exact actsOn_removeTarget ..
    · exact (actsOn_removeTarget ..).trans (actsOn_modLane ..)

section
variable {s : State} (h : Sound s)
include h

/-! ## Changes beside the lanes -/


theorem Sound.reform : Sound s.reform := SoundAs.reform h

theorem Sound.breakLane (n : LaneId) : Sound (s.breakLane n) := by
  refine SoundAs.sound (SoundAs.breakLane h n) ?_
  unfold State.breakLane
  split
  · unfold State.startCadence
    split <;> exact (actsOn_stopLane s n .broke s.graceMs).dryer
  · rfl

theorem Sound.latch (c : Cause) : Sound (s.latch c) := SoundAs.sound (SoundAs.latch h c) (State.latch_dryer ..)

theorem Sound.endCommit : Sound s.endCommit := by
  have ended : Sound { s with commit := none } :=
    SoundAs.beside h rfl rfl rfl rfl rfl (h.counts.congr rfl rfl rfl rfl rfl rfl) h.quiet
  exact ended.latch .storeDone

theorem Sound.continueCommit (c : Commit) : Sound (s.continueCommit c) := by
  unfold State.continueCommit
  split
  · exact h.endCommit
  · exact SoundAs.beside h rfl rfl rfl rfl rfl (h.counts.congr rfl rfl rfl rfl rfl rfl) h.quiet

/-! ## The calibration -/

omit h in
theorem keepsAllBut_recalibrated (cal : CalRecord) (breaks : PerLane BreakInput) :
    KeepsAllBut [.cal, .breaks] s { s with cal := cal, breaks := breaks } :=
  ⟨fun p hp => by cases p <;> first | rfl | simp at hp, rfl⟩

/-- A calibration comes while no lane has a speed (R152). -/
theorem Sound.recalibrated (hd : s.dryer.state = .off) {t : State} (grid : SpeedGrid t)
    (kept : KeepsAllBut [.cal, .breaks] s t) : Sound t := by
  have still : s.dryer.state ≠ .heating := by rw [hd]; decide
  have arbiter : t.arbiter = s.arbiter := kept.1 .arbiter (by simp)
  have load : t.load = s.load := kept.1 .load (by simp)
  have exhaust : t.exhaust = s.exhaust := kept.1 .exhaust (by simp)
  have attention : t.attention = s.attention := kept.1 .attention (by simp)
  have horn : t.horn = s.horn := kept.1 .horn (by simp)
  refine SoundAs.sound (s := s) ⟨grid, arbiter ▸ h.nodup, fun n => ?_,
    h.counts.congr (by rw [load]) (by rw [load]) (by rw [arbiter]) (by rw [exhaust]) (kept.1 .port (by simp))
      (by rw [attention]), by rw [horn]; exact h.quiet⟩ (kept.1 .dryer (by simp))
  obtain ⟨paced, aimed, banded⟩ := SoundAs.lane h n
  have lane : t.lane n = s.lane n := kept.1 (.lane n) (by simp)
  have table : SameProfile s t n := .of_eq (kept.1 .profiles (by simp))
  have g := paced.onlyHeating still
  constructor
  · rw [lane, table.bandsOf (by rw [lane])]
    exact
      { paced with
        crawling := fun _ => g.trans_le (Nat.zero_le _)
        running := fun e => by have := paced.running e; omega }
  · rw [lane, table.bandsOf (by rw [lane]), arbiter]
    exact aimed
  · rw [lane, table.zonesInBand (by rw [lane]) (fun _ => by rw [lane])
      fun _ => reading_congr (kept.1 .readings (by simp)) _]
    exact banded

theorem Sound.takeCalibration (hd : s.dryer.state = .off) {v : List Nat} (hv : v.length = 29)
    (hf : firstFailed (calibrationTests v) = none) : Sound (s.takeCalibration (.ofValues v)) := by
  obtain ⟨⟨-, crawl⟩, ramp, -, step⟩ := ofValues_ranges hv hf
  unfold State.takeCalibration
  have recalibrated : Sound { s with
      cal := ⟨.ofValues v, true, true⟩
      breaks := PerLane.form fun n => (s.breakInput n).rejudged s.cal.values (.ofValues v) n } :=
    h.recalibrated hd ⟨crawl, ⟨ramp, step⟩, h.grid.profiles⟩ (keepsAllBut_recalibrated ..)
  have limited := SoundAs.reformLimit recalibrated
  exact judgeAges_induction (P := Sound) (fun c _ ht => (SoundAs.but ht _).goStale) limited

/-! ## Requests -/

variable (body : List Byte)

theorem Sound.lspd : Sound (takeLspd body s).1 := by
  unfold takeLspd
  split
  next t1 t0 =>
    split
    · exact h
    next n _ =>
      split
      · exact h
      next hm =>
        split
        · exact h
        next hd =>
          have moving : (s.lane n).state.moving = true := by simpa using hm
          have queued (t : Nat) : ((s.queueTarget n t).settle n).dryer = s.dryer := (actsOn_queueTarget s n t).dryer
          have taken (t : Nat) : ((s.takeTargetNow n t).settle n).dryer = s.dryer := (actsOn_takeTargetNow s n t).dryer
          obtain ⟨step, max⟩ := SoundAs.clampedTarget h n (read2 t1 t0)
          dsimp only
          split
          · exact h
          · refine Sound.reform ?_
            split
            next up =>
              obtain ⟨hg, hc⟩ : _ ∧ _ := by simpa using up
              exact (SoundAs.queueTarget h (not_not.1 hd) moving step max hg hc).sound (queued _)
            next down =>
              exact (SoundAs.takeTargetNow h (not_not.1 hd) moving step max (by simpa using down)).sound (taken _)
  · exact h

theorem Sound.lclr : Sound (takeLclr body s).1 := by
  unfold takeLclr
  split
  · split
    · exact h
    next n _ =>
      split
      · exact h
      next hs =>
        split
        · exact h
        · obtain ⟨paced, aimed, -⟩ := SoundAs.lane h n
          have still : (s.lane n).state.moving = false := by rw [hs]; rfl
          have g := paced.stopped still
          have unqueued : n ∉ s.arbiter.queue := fun hn => by
            have := aimed.moving hn
            rw [still] at this
            cases this
          refine Sound.reform (SoundAs.sound (SoundAs.settled_key h (actsOn_modLane ..) ?_ ?_ ?_)
            ((actsOn_modLane ..).trans (actsOn_settle ..)).dryer) <;> rw [State.lane_modLane_same]
          · exact paced.returned hs (by split <;> simp)
          · refine Lane.aimless unqueued ?_ ?_
            · by_contra e; exact unqueued (aimed.target.2 e)
            · by_contra e
              obtain ⟨d, hd⟩ := Option.ne_none_iff_exists'.1 e
              exact unqueued (aimed.lead d hd).1
      · exact h
  · exact h

theorem Sound.lbrk : Sound (takeLbrk body s).1 := by
  unfold takeLbrk
  split
  · split
    · exact Sound.reform (foldl_keeps (P := Sound) (fun _ n ht => ht.breakLane n) _ h)
    · exact h
  · exact h

theorem Sound.dstart : Sound (takeDstart body s).1 := by
  unfold takeDstart
  split
  · split
    next hd =>
      split
      · have entered : Sound (s.enterDryer .purge) :=
          (SoundAs.enterDryer h _).of_not (by rcases hd with e | e <;> rw [e] <;> decide) _
        have timed : Sound { s.enterDryer .purge with
          dryer := { (s.enterDryer .purge).dryer with purgeMs := 0 } } := SoundAs.withDryer entered _
        exact SoundAs.reform (timed.exhaust (Nat.zero_le 3))
      · exact h
    · exact h
  · exact h

theorem Sound.dstop : Sound (takeDstop body s).1 := by
  have cooled (hr : ∀ n, (s.lane n).state ≠ .running) : Sound s.enterCooldown.reform :=
    SoundAs.reform (h.enterCooldown hr)
  unfold takeDstop
  split
  · split
    · exact h
    · exact h
    · split
      · exact h
      next hr =>
        refine cooled fun n e => hr ?_
        simp only [State.anyRunning, List.any_eq_true, beq_iff_eq]
        exact ⟨n, by cases n <;> decide, e⟩
    next hd => exact cooled (h.not_running (by rw [hd]; decide))
    next hd => exact cooled (h.not_running (by rw [hd]; decide))
  · exact h

theorem Sound.rdg : Sound (takeRdg body s).1 := by
  unfold takeRdg
  split
  · exact h
  · split
    · exact h
    · split
      · exact h
      · split
        · exact h
        · exact SoundAs.reform (h.takeReadings _)

theorem Sound.beat : Sound (takeBeat body s).1 := by
  unfold takeBeat
  split
  · exact SoundAs.beside h rfl rfl rfl rfl rfl (h.counts.congr rfl rfl rfl rfl rfl rfl) h.quiet
  · exact h

theorem Sound.atclr : Sound (takeAtclr body s).1 := by
  unfold takeAtclr
  split
  · split
    · exact h
    · exact SoundAs.reform (SoundAs.beside h rfl rfl rfl rfl rfl (h.counts.congr rfl rfl rfl rfl rfl rfl) fun e => if_pos e)
  · exact h

theorem Sound.atmsk : Sound (takeAtmsk body s).1 := by
  unfold takeAtmsk
  split
  · split
    · exact h
    · refine SoundAs.reform (SoundAs.beside h rfl rfl rfl rfl rfl { h.counts with mask := ?_ } h.quiet)
      show _ &&& routineCauses &&& ~~~routineCauses = 0
      rw [BitVec.and_assoc, BitVec.and_not_self]
      exact BitVec.and_zero
  · exact h

theorem Sound.pkrd : Sound (takePkrd body s).1 := by
  unfold takePkrd
  dsimp only
  split
  · split
    · exact h
    · split
      · exact SoundAs.beside h rfl rfl rfl rfl rfl { h.counts with peak := ⟨Nat.zero_le _, h.counts.peak.2⟩ } h.quiet
      · exact h
  · exact h

theorem Sound.scommit : Sound (takeScommit body s).1 := by
  unfold takeScommit
  split
  · exact h
  · split
    · exact SoundAs.reform (h.continueCommit _)
    · exact h

theorem Sound.cwr : Sound (takeCwr body s).1 := by
  unfold takeCwr
  split
  · exact h
  · split
    · exact h
    next hd =>
      split
      · exact h
      next hv =>
        split
        · exact h
        next hf => exact Sound.reform (h.takeCalibration (not_not.1 hd) (readCalibration_length hv) hf)

theorem Sound.srst : Sound (takeSrst body s).1 := by
  unfold takeSrst
  split
  · split
    · exact SoundAs.beside h rfl rfl rfl rfl rfl (h.counts.congr rfl rfl rfl rfl rfl rfl) h.quiet
    · exact h
  · exact h

theorem Sound.kstat : Sound (takeKstat body s).1 := by
  unfold takeKstat
  dsimp only
  split
  · split
    · exact h
    · split
      · exact SoundAs.beside h rfl rfl rfl rfl rfl { h.counts with link := ⟨Nat.zero_le _, Nat.zero_le _⟩ } h.quiet
      · exact h
  · exact h

end

end Sys2Proof.Machine
end

section
/-! PROOF. Every step keeps the laws of the lanes, the queue and the counts (O8, O9, O10, O12). -/

namespace Sys2Proof.Machine

/-! ## Requests -/

/-- Every request keeps the laws; the ranges and the binding law of the state it leaves are kept beside them. -/
theorem Sound.owner {s : State} (h : Sound s) (b : BoundTable s) (r : RangesLaw s) {code : Byte}
    {take : List Byte → State → State × Reply} (ht : ownerOf code = some take) (body : List Byte) :
    Sound (take body s).1 := by
  have bound := (boundTable_invariant.owner ht b body).2
  have grid := (rangesLaw_invariant.owner ht r body).grid
  obtain ⟨hplook, hplist, hlstat, hdstat, hatrd, hcrd⟩ := takes_nothing body s
  unfold ownerOf at ht
  split at ht <;> cases ht
  · rwa [hplook]
  · rwa [hplist]
  · exact h.pwrite body b.2 grid
  · exact h.ptrim body grid
  · exact h.pretire body bound grid
  · exact h.lthrd body grid
  · exact h.lunth body bound grid
  · exact h.lspd body
  · exact h.lclr body
  · exact h.lbrk body
  · rwa [hlstat]
  · exact h.dstart body
  · exact h.dstop body
  · rwa [hdstat]
  · exact h.rdg body
  · exact h.beat body
  · rwa [hatrd]
  · exact h.atclr body
  · exact h.atmsk body
  · exact h.pkrd body
  · exact h.scommit body
  · rwa [hcrd]
  · exact h.cwr body
  · exact h.srst body
  · exact h.kstat body

/-! ## Time -/

theorem State.lane_later (s : State) (n : LaneId) :
    s.later.lane n = (s.lane n).later (s.cal.values.leadTimeout * 1000) := PerLane.get_form ..

theorem State.reading_later (s : State) (c : Channel) : s.later.reading c = (s.reading c).later s.staleMs := by
  cases c with
  | zone n z =>
    have zones : (s.later.readings.lanes.get n).zones = _ := congrArg LaneReadings.zones (PerLane.get_form ..)
    exact (congrArg (PerZone.get · z) zones).trans (PerZone.get_form ..)
  | webExit n => exact congrArg LaneReadings.webExit (PerLane.get_form ..)
  | chillExit n => exact congrArg LaneReadings.chillExit (PerLane.get_form ..)
  | analyzer => rfl
  | chillWater => rfl

/-- A channel's age is no matter to a test of its value. -/
theorem Reading.passes_later (r : Reading) (staleMs : Nat) (test : Int → Bool) :
    (r.later staleMs).passes test = r.passes test := by
  unfold Reading.later Reading.passes
  split <;> rfl

theorem State.zonesInBand_later (s : State) (n : LaneId) : s.later.zonesInBand n = s.zonesInBand n := by
  have zone (tolerance : Nat) (z : ZoneId) : s.later.zoneInBand n tolerance z = s.zoneInBand n tolerance z := by
    unfold State.zoneInBand
    rw [State.reading_later, Reading.passes_later]
    unfold State.setpoint State.profileOf
    rw [State.lane_later]
    rfl
  unfold State.zonesInBand
  simp only [funext (zone _)]
  unfold State.profileOf
  rw [State.lane_later]
  rfl

/-- A millisecond changes nothing that the laws go by. -/
theorem Sound.later {s : State} (h : Sound s) : Sound s.later := by
  have lane := s.lane_later
  have link : s.later.port.discarded = s.port.discarded ∧ s.later.port.collisions = s.port.collisions := by
    unfold State.later State.portLater
    dsimp only
    split <;> exact ⟨rfl, rfl⟩
  refine ⟨⟨h.grid.crawl, h.grid.ramp, h.grid.profiles⟩, h.nodup, fun n => ?_,
    ⟨h.counts.peak, h.counts.excess, h.counts.zeroRun, by rw [link.1, link.2]; exact h.counts.link, h.counts.mask⟩,
    fun e => ?_⟩
  · obtain ⟨paced, aimed, banded⟩ := SoundAs.lane h n
    have bands : s.later.bandsOf n = s.bandsOf n :=
      (SameProfile.of_eq (s := s) (t := s.later) rfl).bandsOf (by rw [lane]; rfl)
    constructor
    · rw [bands, lane]; exact { paced with }
    · rw [bands, lane]; exact { aimed with }
    · rw [s.zonesInBand_later, lane]; exact { banded with }
  · show s.horn.cadence.map _ = none
    rw [h.quiet e]
    rfl

/-- Commands that wait and expiries that are owed are no matter of the lanes. -/
theorem Sound.waiting {s : State} (h : Sound s) (owed pending : List Instr) (free : Nat) :
    Sound { s with owed := owed, pending := pending, freeIndex := free } :=
  SoundAs.beside h rfl rfl rfl rfl rfl (h.counts.congr rfl rfl rfl rfl rfl rfl) h.quiet

theorem Sound.tick {s : State} (h : Sound s) : Sound s.tick := by
  rcases s.tick_cases with ⟨-, e⟩ | ⟨-, -, e⟩ | ⟨i, rest, -, -, -, e⟩ | ⟨-, -, -, e⟩ <;> rw [e]
  · exact h
  · exact h.waiting ..
  · exact h.waiting ..
  · unfold State.post
    split
    · exact h.later.waiting ..
    · exact h.later.waiting ..

/-! ## Restarts -/

/-- A part that has just started obeys the laws (R43, R62, R139). -/
theorem Resting.sound {s : State} (r : Resting s) (grid : SpeedGrid s) (arbiter : s.arbiter.queue = [] ∧ s.arbiter.excess = 0)
    (load : s.load.peak = 0 ∧ s.load.estimated = 0) (flow : s.exhaust.zeroRun = 0) (port : s.port.Counted) : Sound s where
  grid := grid
  nodup := arbiter.1 ▸ List.nodup_nil
  lane n :=
    { paced := by
        rw [r.lanes]
        exact
          { keyed := iff_of_true rfl rfl
            step := rfl
            atMostMax := Nat.zero_le _
            stopped := fun _ => rfl
            onlyHeating := fun _ => rfl
            crawling := fun _ => Nat.zero_le _
            running := nofun
            hold := fun e => absurd rfl e
            broke := nofun
            unjudged := fun _ => ⟨rfl, rfl⟩
            hotWeb := fun _ => rfl
            counts := ⟨Nat.zero_le _, Nat.zero_le _, Nat.zero_le _⟩ }
      aimed := by
        rw [r.lanes, arbiter.1]
        exact Lane.aimless List.not_mem_nil rfl rfl
      banded := by
        rw [zonesInBand_eq_none.2 (by rw [r.lanes]; rfl), r.lanes]
        exact ⟨rfl, nofun, nofun, nofun⟩ }
  counts := ⟨by rw [load.1, load.2]; decide, by rw [arbiter.2]; decide, by rw [flow]; decide, port,
    by rw [r.mask]; decide⟩
  quiet _ := by rw [r.horn]

theorem sound_boot (s : State) (straps : Straps) (levels : PerLane Bool) (grid : SpeedGrid (s.boot straps levels)) :
    Sound (s.boot straps levels) := by
  have lost (t : State) (k : Nat) : (t.latchLost k).arbiter = t.arbiter ∧ (t.latchLost k).load = t.load ∧
      (t.latchLost k).exhaust = t.exhaust ∧ (t.latchLost k).port = t.port := by
    unfold State.latchLost
    split
    · exact ⟨rfl, rfl, rfl, rfl⟩
    · refine ⟨?_, ?_, ?_, ?_⟩ <;> simp
  obtain ⟨arbiter, load, exhaust, port⟩ := lost _ (loadSlots ([], 0) 0 s.store.slots).2
  refine (resting_boot s straps levels).sound grid ?_ ?_ ?_ ?_ <;> unfold State.boot <;> dsimp only
  · rw [arbiter]; exact ⟨rfl, rfl⟩
  · rw [load]; exact ⟨rfl, rfl⟩
  · rw [exhaust]; rfl
  · rw [port]; exact ⟨Nat.zero_le _, Nat.zero_le _⟩

theorem sound_losePower (s : State) (grid : SpeedGrid s.losePower) : Sound s.losePower :=
  (resting_losePower s).sound grid ⟨rfl, rfl⟩ ⟨rfl, rfl⟩ rfl ⟨Nat.zero_le _, Nat.zero_le _⟩

/-! ## Events -/

section
variable {s : State} (h : Sound s)
include h

/-- A window sets the measured speed within its range (R61). -/
theorem Sound.windowDone (n : LaneId) (ppm : Nat) : Sound (s.modLane n fun l => l.windowDone ppm) := by
  have paced := (SoundAs.lane h n).paced
  exact SoundAs.modLane h n { paced with counts := ⟨paced.counts.1, paced.counts.2.1, Nat.min_le_left _ _⟩ } rfl rfl rfl
    rfl rfl (.inl rfl)

/-- The overspeed count and flag of a moving lane set (R62). -/
theorem Sound.flagSpeed {n : LaneId} (hm : (s.lane n).state.moving = true) {k : Nat} (hk : k ≤ 2) (flag : Bool) :
    Sound (s.setLane n { s.lane n with overCount := k, overspeed := flag }) := by
  have paced := (SoundAs.lane h n).paced
  exact SoundAs.modLane h n (f := fun l => { l with overCount := k, overspeed := flag })
    { paced with
      unjudged := fun e => by cases hm.symm.trans e
      counts := ⟨hk, paced.counts.2⟩ } rfl rfl rfl rfl rfl (.inl rfl)

theorem Sound.judgeSpeed (n : LaneId) : Sound (s.judgeSpeed n) := by
  unfold State.judgeSpeed
  dsimp only
  split
  · exact h
  next hm =>
    have moving : (s.lane n).state.moving = true := by simpa using hm
    split
    · split
      · exact h.flagSpeed moving (Nat.zero_le 2) _
      · split
        · exact h.flagSpeed moving (Nat.le_succ 1) _
        · split
          · exact SoundAs.latchLane (h.flagSpeed moving (Nat.le_refl 2) true) _ n
          · exact h
    · exact h.flagSpeed moving (Nat.zero_le 2) _

/-- A residual hold ends (R55). -/
theorem Sound.endHold (n : LaneId) : Sound (s.modLane n fun l =>
    { l with residual := none, residualMs := 0, state := if l.state = .broke then .broken else l.state }) := by
  have paced := (SoundAs.lane h n).paced
  by_cases hb : (s.lane n).state = .broke
  · have still := paced.stopped (by rw [hb]; rfl)
    have key : (s.lane n).key ≠ none := by rw [Ne, paced.keyed, hb]; decide
    refine SoundAs.modLane h n ?_ rfl rfl rfl rfl rfl (.inr ⟨by rw [hb]; rfl, by rw [if_pos hb]; rfl⟩)
    rw [if_pos hb]
    exact
      { paced with
        keyed := iff_of_false key nofun
        stopped := fun _ => still
        crawling := fun _ => still.trans_le (Nat.zero_le _)
        running := nofun
        hold := fun e => absurd rfl e
        broke := nofun
        unjudged := fun _ => paced.unjudged (by rw [hb]; rfl)
        hotWeb := fun _ => paced.hotWeb (by rw [hb]; decide) }
  · refine SoundAs.modLane h n ?_ rfl rfl rfl rfl rfl (.inl (if_neg hb))
    rw [if_neg hb]
    exact { paced with hold := fun e => absurd rfl e, broke := fun e => absurd e hb }

theorem Sound.endGrace (n : LaneId) : Sound (s.modLane n fun l => { l with graceMs := 0 }) :=
  SoundAs.modLane h n { (SoundAs.lane h n).paced with } rfl rfl rfl rfl rfl (.inl rfl)

theorem Sound.setBreakInput (n : LaneId) (b : BreakInput) : Sound (s.setBreakInput n b) :=
  SoundAs.beside h rfl rfl rfl rfl rfl (h.counts.congr rfl rfl rfl rfl rfl rfl) h.quiet

theorem Sound.purgeFailed (hd : s.dryer.state = .purge) :
    Sound ({ (s.enterDryer .off).latch .purgeFailed with
      dryer := { ((s.enterDryer .off).latch .purgeFailed).dryer with purgeMs := 600000 } }.suspendWhere
        LaneState.threadingOrReady) := by
  have off : SoundAs (s.dryer.state = .heating) ((s.enterDryer .off).latch .purgeFailed) :=
    SoundAs.latch (SoundAs.enterDryer h .off) _
  exact ((off.withDryer _).suspendWhere rfl).of_not (by rw [hd]; decide) _

/-- A slot write is no matter of the lanes (R148). -/
theorem Sound.writeDone (c : Commit) (v : Bool) : Sound (s.writeDone c v) := by
  have stored {t : State} (ht : Sound t) (store : Store) (marks : BitVec 48) (free : Nat) (changed : Bool) :
      Sound { t with store := store, marks := marks, freeIndex := free, cal := { t.cal with changed := changed } } :=
    SoundAs.beside ht rfl rfl rfl rfl rfl (ht.counts.congr rfl rfl rfl rfl rfl rfl) ht.quiet
  have told {t : State} (ht : Sound t) (a : Attention) (ha : a.mask = t.attention.mask) : Sound { t with attention := a } :=
    SoundAs.beside ht rfl rfl rfl rfl rfl (ht.counts.congr rfl rfl rfl rfl rfl ha) ht.quiet
  unfold State.writeDone
  split
  next i image rest _ =>
    refine Sound.continueCommit ?_ _
    unfold State.slotWritten State.clearMark State.latchSlotFault
    dsimp only
    split
    · split <;> exact stored h _ _ _ _
    · exact told (Sound.latch (stored h _ _ _ _) _) _ rfl
  · split
    next values _ =>
      refine Sound.continueCommit ?_ _
      unfold State.calibrationWritten State.latchCalibrationFault
      dsimp only
      split
      · exact stored h _ _ _ _
      · exact told (Sound.latch (stored h _ _ _ _) _) _ rfl
    · exact h.endCommit

end

/-! ## Commands and steps -/

/-- Every command that is not of the line keeps the laws. -/
theorem Sound.exec_offLine {i : Instr} {s t : State} (h : Sound s) (grid : SpeedGrid t) (hi : offLine i = true)
    (e : exec i s = .next t) : Sound t := by
  have next {u : State} (hu : Sound u) (e : Host.Outcome.next u = (.next t : Host.Outcome State Fault Refusal)) :
      Sound t := by
    cases e; exact hu
  have test {c : Prop} [Decidable c] {u v : State} (hu : c → Sound u) (hv : Sound v) : Sound (if c then u else v) := by
    split
    · exact hu ‹_›
    · exact hv
  have powered {u : State} (e : Host.Outcome.next (if s.powered then u else s) =
      (.next t : Host.Outcome State Fault Refusal)) (hu : Sound u) : Sound t := next (test (fun _ => hu) h) e
  cases i
  case stationReset straps =>
    cases e
    by_cases due : s.resetDue = true
    · rw [if_pos due] at grid ⊢
      have booted := sound_boot s straps s.breakLevels (grid.congr rfl rfl)
      exact SoundAs.beside booted rfl rfl rfl rfl rfl { booted.counts with link := h.counts.link } booted.quiet
    · rw [if_neg due]
      exact h
  case powerOn straps bits =>
    cases e
    exact sound_boot _ straps (levelsOf bits) grid
  case powerLoss =>
    cases e
    by_cases hp : s.powered = true
    · rw [if_pos hp] at grid ⊢
      exact sound_losePower s grid
    · rw [if_neg hp]
      exact h
  case evaluation =>
    have begun : Sound { s with arbiter := { s.arbiter with evalMs := 0 } } :=
      SoundAs.beside h rfl rfl rfl rfl rfl (h.counts.congr rfl rfl rfl rfl rfl rfl) h.quiet
    exact powered e (test (fun _ => begun.evaluate.reform) begun)
  case encoderWindow n => exact powered e (((h.windowDone n _).judgeSpeed n).reform)
  case flowWindow => exact powered e h.flowWindow.reform
  case purgeFailed => exact powered e (test (fun hd => (h.purgeFailed hd).reform) h)
  case cooldownTimeout =>
    exact powered e (test (fun hd => Sound.reform (SoundAs.withDryer (h.endCooldown hd) _)) h)
  case residualHoldExpiry n => exact powered e (test (fun _ => (h.endHold n).reform) h)
  case decelGraceExpiry n => exact powered e (h.endGrace n)
  case bandLeadTimeout n =>
    have stopped (ms : Nat) : Sound (s.modLane n fun l => { l with leadMs := ms }) :=
      SoundAs.modLane h n { (SoundAs.lane h n).paced with } rfl rfl rfl rfl rfl (.inl rfl)
    exact powered e (test (fun _ => Sound.reform (SoundAs.latchLane (stopped _) _ n)) h)
  case readingStale c =>
    have aged := (SoundAs.but h fun n => ∃ z, c = .zone n z).setReading (c := c) (fun n z e => ⟨z, e⟩)
      { s.reading c with ageMs := s.staleMs }
    rw [← State.setReading_dryer s c { s.reading c with ageMs := s.staleMs }] at aged
    exact powered e (test (fun _ => aged.goStale.reform) h)
  case breakInputChange n level => exact powered e ((h.setBreakInput n _).setBreakInput n _)
  case confirmedBreak n =>
    refine powered e ?_
    dsimp only
    split
    · exact ((h.setBreakInput n _).breakLane n).reform
    · exact h
  case cadencePhaseEnd =>
    refine powered e ?_
    dsimp only
    split
    next c hc =>
      refine Sound.reform (SoundAs.beside h rfl rfl rfl rfl rfl (h.counts.congr rfl rfl rfl rfl rfl rfl) fun quiet => ?_)
      rw [h.quiet quiet] at hc
      cases hc
    · exact h
  case masterSilent =>
    have silent : Sound { s with heartbeat := ⟨true, 0, true⟩ } :=
      SoundAs.beside h rfl rfl rfl rfl rfl (h.counts.congr rfl rfl rfl rfl rfl rfl) h.quiet
    exact powered e (test (fun _ => (silent.latch .masterSilent).emptyQueue.lowerToCrawl.reform) h)
  case slotWriteDone v =>
    refine powered e ?_
    dsimp only
    split
    · exact (h.writeDone _ v).reform
    · exact h
  case encoderEdge n gap =>
    exact powered e (SoundAs.modLane h n { (SoundAs.lane h n).paced with } rfl rfl rfl rfl rfl (.inl rfl))
  case flowPulse gap => exact powered e (h.exhaust h.counts.zeroRun)
  all_goals cases hi

/-- The laws of the lanes with the table and the ranges they stand on. -/
structure SoundTable (s : State) : Prop where
  bound : BoundTable s
  ranges : RangesLaw s
  sound : Sound s

theorem soundTable_invariant : CountedInvariant SoundTable where
  counted h := h.sound.counts.link
  port {s t} h only counts :=
    ⟨boundTable_invariant.kept h.bound (only ▸ .port ..), rangesLaw_invariant.kept h.ranges (only ▸ .port ..), by
      rw [only]
      exact SoundAs.beside h.sound rfl rfl rfl rfl rfl { h.sound.counts with link := counts } h.sound.quiet⟩
  owner body ht h := ⟨boundTable_invariant.owner ht h.bound body, rangesLaw_invariant.owner ht h.ranges body,
    h.sound.owner h.bound h.ranges ht body⟩

theorem SoundTable.step {s t : State} (h : SoundTable s) (e : step s = .next t) : SoundTable t := by
  refine ⟨boundTable_invariant.step h.bound e, rangesLaw_invariant.step h.ranges e, ?_⟩
  have grid := (rangesLaw_invariant.step h.ranges e).grid
  unfold Machine.step at e
  split at e
  · cases e
    exact h.sound.tick
  next i rest _ =>
    have waiting : SoundTable { s with pending := rest } :=
      ⟨boundTable_invariant.kept h.bound .of_fields, rangesLaw_invariant.kept h.ranges .of_fields,
        h.sound.waiting s.owed rest s.freeIndex⟩
    cases hi : offLine i with
    | true => exact waiting.sound.exec_offLine grid hi e
    | false => exact (soundTable_invariant.exec waiting hi e).sound

theorem Lawful.soundTable {s : State} (l : Lawful s) : SoundTable s :=
  ⟨⟨l.table, l.binding⟩, ⟨l.calibration, l.profiles⟩, l.sound⟩

/-! ## The obligations -/

section
variable {s t : State} (l : Lawful s) (h : step s = .next t)
include l h

theorem Lawful.sound_step : Sound t := (l.soundTable.step h).sound

end

/-- Settles O8: the speed law is part of the laws that a step keeps. -/
theorem speedLawKept : Obligations.SpeedLawKept := fun _ _ l h => (l.sound_step h).speedLaw

/-- Settles O9: the queue law is part of the laws that a step keeps. -/
theorem queueLawKept : Obligations.QueueLawKept := fun _ _ l h => (l.sound_step h).queueLaw

/-- Settles O10: the in-band law is part of the laws that a step keeps. -/
theorem inBandLawKept : Obligations.InBandLawKept := fun _ _ l h => (l.sound_step h).inBandLaw

/-- Settles O12: the horn's condition is one of the figures formed; the rest is part of the laws that a step keeps. -/
theorem laneHornCountLawsKept : Obligations.LaneHornCountLawsKept := fun _ _ l h =>
  have sound := l.sound_step h
  ⟨sound.laneLaw, ⟨(l.formed.step ⟨l.table, l.binding⟩ h).horn, sound.quiet⟩, sound.counts⟩

end Sys2Proof.Machine
end

section
/-! PROOF. The events of one lane: its timers (R49, R55, R80), its encoder and its overspeed judgement (R61, R62). -/

namespace Sys2Proof.Machine

/-! ## Events of a powered part -/

/-- An event of a powered part does what its block does. -/
theorem exec_powered {i : Instr} {s : State} {f : State → State} (hp : s.powered = true)
    (hi : exec i s = s.whenPowered f := by rfl) : exec i s = .next (f s) := by
  rw [hi, State.whenPowered, if_pos hp]

/-- A state re-formed is formed from a state with the same load computer. -/
theorem formedFrom_reform {s t : State} (h : t.load = s.load) : FormedFrom s t.reform := ⟨by rw [← h]; rfl, rfl⟩

theorem keepsAllBut_reformed {changed : List Part} {s t : State} (h : KeepsAllBut changed s t)
    (hl : .load ∈ changed := by simp) (hn : .lines ∈ changed := by simp) : KeepsAllBut changed s t.reform :=
  h.trans ((keepsAllBut_reform t).mono (by simp [hl, hn]))

theorem keepsAllBut_latchLane (s : State) (c : Cause) (n : LaneId) : KeepsAllBut [.attention] s (s.latchLane c n) :=
  keepsAllBut_attention s _

/-! ## The timers of a lane -/

/-- Settles O44: each timer's end is one change of the lane's record, made only while the timer runs. -/
theorem laneTimers : Obligations.LaneTimers := by
  intro s n hp
  refine ⟨fun hr => ?_, fun hr => ?_, ⟨_, exec_powered hp, State.lane_modLane_same .., keepsAllBut_modLane ..⟩,
    fun hl hm => ?_, fun h => ?_⟩ <;> rw [exec_powered hp]
  · refine ⟨_, congrArg Host.Outcome.next (if_pos (Option.isSome_iff_ne_none.2 hr)), by simp,
      formedFrom_reform rfl, ?_⟩
    exact keepsAllBut_reformed ((keepsAllBut_modLane s n _).mono (by simp))
  · exact congrArg Host.Outcome.next (if_neg (by simp [hr]))
  · refine ⟨_, congrArg Host.Outcome.next (if_pos ⟨hl, hm⟩), by simp, rfl, formedFrom_reform rfl, ?_⟩
    exact keepsAllBut_reformed (((keepsAllBut_modLane s n _).mono (by simp)).trans
      ((keepsAllBut_latchLane _ .bandLeadTimeout n).mono (by simp)))
  · exact congrArg Host.Outcome.next (if_neg fun ⟨hl, hm⟩ => h.elim (fun e => by simp [e] at hl) fun e => by omega)

/-! ## Overspeed (R62) -/

/-- What a judgement makes of a lane's overspeed count and flag (R62). -/
structure SpeedJudged (l : Lane) (count : Nat) (flag : Bool) : Prop where
  still : l.state.moving = false → count = l.overCount ∧ flag = l.overspeed
  within : l.state.moving = true → l.measured ≤ overspeedLimit l.g → count = 0 ∧ flag = false
  grace : l.state.moving = true → overspeedLimit l.g < l.measured → 0 < l.graceMs → count = 0 ∧ flag = l.overspeed
  first : l.state.moving = true → overspeedLimit l.g < l.measured → l.graceMs = 0 → l.overCount = 0 →
    count = 1 ∧ flag = l.overspeed
  second : l.state.moving = true → overspeedLimit l.g < l.measured → l.graceMs = 0 → l.overCount = 1 →
    count = 2 ∧ flag = true
  flagged : l.state.moving = true → overspeedLimit l.g < l.measured → l.graceMs = 0 → 2 ≤ l.overCount →
    count = l.overCount ∧ flag = l.overspeed

/-- The judgement that flags a lane: the second in a row above the limit, with no grace. -/
def Lane.flags (l : Lane) : Prop :=
  l.state.moving = true ∧ overspeedLimit l.g < l.measured ∧ l.graceMs = 0 ∧ l.overCount = 1

/-- What a judgement of a lane's speed does to the state (R62). -/
structure JudgesSpeed (s t : State) (n : LaneId) : Prop where
  lane : t.lane n = { s.lane n with overCount := (t.lane n).overCount, overspeed := (t.lane n).overspeed }
  judged : SpeedJudged (s.lane n) (t.lane n).overCount (t.lane n).overspeed
  told : (s.lane n).flags → t.attention = s.attention.latchLane .overspeed n
  quiet : ¬(s.lane n).flags → t.attention = s.attention
  keeps : KeepsAllBut [.lane n, .attention] s t

section
variable {s : State} {n : LaneId} {count : Nat} {flag : Bool}

/-- A judgement that sets the count and the flag and tells nobody. -/
theorem judgesSpeed_setLane (hj : SpeedJudged (s.lane n) count flag) (hf : ¬(s.lane n).flags) :
    JudgesSpeed s (s.setLane n { s.lane n with overCount := count, overspeed := flag }) n where
  lane := by rw [State.lane_setLane_same]
  judged := by rw [State.lane_setLane_same]; exact hj
  told h := absurd h hf
  quiet _ := rfl
  keeps := (keepsAllBut_modLane s n fun l => { l with overCount := count, overspeed := flag }).mono (by simp)

theorem judgesSpeed_same (hj : SpeedJudged (s.lane n) (s.lane n).overCount (s.lane n).overspeed)
    (hf : ¬(s.lane n).flags) : JudgesSpeed s s n := ⟨rfl, hj, fun h => absurd h hf, fun _ => rfl, .refl _ s⟩

theorem judgesSpeed_judgeSpeed (s : State) (n : LaneId) : JudgesSpeed s (s.judgeSpeed n) n := by
  unfold State.judgeSpeed
  dsimp only
  split
  · exact judgesSpeed_same (by constructor <;> grind) (by grind [Lane.flags])
  · split
    · split
      · exact judgesSpeed_setLane (by constructor <;> grind) (by grind [Lane.flags])
      · split
        · exact judgesSpeed_setLane (flag := (s.lane n).overspeed) (by constructor <;> grind) (by grind [Lane.flags])
        · split
          next hm hl hg _ h1 =>
            have flagged := (keepsAllBut_modLane s n fun l => { l with overCount := 2, overspeed := true }).mono
              (large := [.lane n, .attention]) (by simp)
            have flags : (s.lane n).flags := by grind [Lane.flags]
            exact
              { lane := by rw [State.lane_latchLane, State.lane_setLane_same]
                judged := by
                  rw [State.lane_latchLane, State.lane_setLane_same]
                  constructor <;> grind
                told := fun _ => rfl
                quiet := fun hf => absurd flags hf
                keeps := flagged.trans ((keepsAllBut_latchLane _ .overspeed n).mono (by simp)) }
          · exact judgesSpeed_same (by constructor <;> grind) (by grind [Lane.flags])
    · exact judgesSpeed_setLane (by constructor <;> grind) (by grind [Lane.flags])

end

/-! ## Edges and windows (R61) -/

theorem countEdge_counted {count since gap : Nat} (h : 7 ≤ since + gap) :
    countEdge count since gap = (min 65535 (count + 1), 0) := by
  rw [countEdge, Nat.min_eq_left h]
  rfl

theorem countEdge_close {count since gap : Nat} (h : since + gap < 7) :
    countEdge count since gap = (count, since + gap) := by
  rw [countEdge, Nat.min_eq_right h.le]
  exact if_neg (Nat.not_le.2 h)

/-- Settles O43: an edge is counted or is too close; a window sets the measured speed, which is then judged. -/
theorem encoderCounts : Obligations.EncoderCounts := by
  intro s n hp
  refine ⟨fun gap => ⟨_, exec_powered hp, keepsAllBut_modLane .., fun h => ?_, fun h => ?_⟩, ?_⟩
  · rw [State.lane_modLane_same, countEdge_counted h]
  · rw [State.lane_modLane_same, countEdge_close h]
  · rintro m rfl limit rfl
    set w := s.modLane n fun l => l.windowDone (s.cal.values.encoderPpm.get n) with hw
    have before : w.lane n = (s.lane n).windowDone (s.cal.values.encoderPpm.get n) := State.lane_modLane_same ..
    obtain ⟨lane, judged, told, quiet, keeps⟩ := judgesSpeed_judgeSpeed w n
    rw [before] at lane judged told quiet
    have load : (w.judgeSpeed n).load = s.load := keeps.1 .load (by simp)
    have window : exec (.encoderWindow n) s = .next (w.judgeSpeed n).reform :=
      (exec_powered (i := .encoderWindow n) hp :)
    refine ⟨_, window, lane, judged.still, judged.within, judged.grace, judged.first, fun hm hl hg h1 => ?_,
      judged.flagged, quiet, formedFrom_reform load,
      keepsAllBut_reformed (((keepsAllBut_modLane s n _).mono (by simp)).trans (keeps.mono (by simp)))⟩
    obtain ⟨count, flag⟩ := judged.second hm hl hg h1
    exact ⟨count, flag, told ⟨hm, hl, hg, h1⟩⟩

end Sys2Proof.Machine
end

section
/-! PROOF. Lanes that stop (R54, R58): the record that a stop leaves, and what a walk over the lanes does to each of them;
the ends of a purge and of a cooldown (R89, R92). -/

namespace Sys2Proof.Machine

/-! ## Walks over the lanes -/

/-- What is done beside lane `n`: its record and what its load goes by stay, and no lane joins the queue. -/
structure Aside (n : LaneId) (s t : State) : Prop where
  lane : t.lane n = s.lane n
  queue : ∀ m ∈ t.arbiter.queue, m ∈ s.arbiter.queue
  profiles : t.profiles = s.profiles
  cal : t.cal = s.cal

theorem Aside.refl (n : LaneId) (s : State) : Aside n s s := ⟨rfl, fun _ => id, rfl, rfl⟩

theorem Aside.trans {n : LaneId} {s t u : State} (h : Aside n s t) (h' : Aside n t u) : Aside n s u :=
  ⟨h'.lane.trans h.lane, fun m => h.queue m ∘ h'.queue m, h'.profiles.trans h.profiles, h'.cal.trans h.cal⟩

/-- A change of other records than the lane's, the queue, the table and the calibration. -/
theorem Aside.of_keeps {changed : List Part} {n : LaneId} {s t : State} (h : KeepsAllBut changed s t)
    (lane : .lane n ∉ changed := by simp) (arbiter : .arbiter ∉ changed := by simp)
    (profiles : .profiles ∉ changed := by simp) (cal : .cal ∉ changed := by simp) : Aside n s t := by
  have queue : t.arbiter = s.arbiter := h.1 .arbiter arbiter
  exact ⟨h.1 (.lane n) lane, fun _ => by rw [queue]; exact id, h.1 .profiles profiles, h.1 .cal cal⟩

/-- A walk comes to a lane through the lanes before it, and leaves it for those after it: a preorder that every other
lane's operation keeps holds on both ways. -/
theorem walk_apart {R : State → State → Prop} (refl : ∀ s, R s s) (trans : ∀ {s t u}, R s t → R t u → R s u)
    {op : State → LaneId → State} {n : LaneId} (hop : ∀ t m, m ≠ n → R t (op t m)) {ns : List LaneId} (hns : ns.Nodup)
    (hn : n ∈ ns) (s : State) : ∃ u, R s u ∧ R (op u n) (ns.foldl op s) := by
  obtain ⟨before, after, rfl⟩ := List.append_of_mem hn
  have apart := List.nodup_append.1 hns
  have walk {ms : List LaneId} (hms : n ∉ ms) (t : State) : R t (ms.foldl op t) := by
    induction ms generalizing t with
    | nil => exact refl t
    | cons m ms ih =>
      obtain ⟨hm, hms⟩ := not_or.1 (List.mem_cons.not.1 hms)
      exact trans (hop t m (Ne.symm hm)) (ih hms _)
  refine ⟨before.foldl op s, walk (fun h => apart.2.2 n h n List.mem_cons_self rfl) s, ?_⟩
  rw [List.foldl_append, List.foldl_cons]
  exact walk (List.nodup_cons.1 apart.2.1).1 _

theorem LaneId.mem_all (n : LaneId) : n ∈ LaneId.all := by cases n <;> decide

theorem LaneId.nodup_all : LaneId.all.Nodup := by decide

/-! ## A lane that stops -/

theorem stopLane_arbiter (s : State) (n : LaneId) (state : LaneState) (graceMs : Nat) :
    (s.stopLane n state graceMs).arbiter = { s.arbiter with queue := s.arbiter.queue.filter (· ≠ n) } := by
  have queue : s.arbiter.queue.filter (· != n) = s.arbiter.queue.filter (· ≠ n) :=
    List.filter_congr fun m _ => by simp [bne, beq_eq_decide]
  rw [← queue]
  rfl

theorem lane_stopLane (s : State) (n : LaneId) {state : LaneState} (graceMs : Nat) :
    (s.stopLane n state graceMs).lane n = (({ (s.lane n).clearLead with target := none } : Lane).stopped state
      (s.laneLoad n) (s.holdMs n) graceMs).judged ((s.stopLane n state graceMs).zonesInBand n) := by
  unfold State.stopLane
  rw [State.zonesInBand_settle, State.lane_settle_same, State.lane_modLane_same, State.lane_removeTarget_same]

/-- A stop leaves the lane as R54 and R58 say. -/
theorem stopped_stopLane (s : State) (n : LaneId) {state : LaneState} (hs : state.moving = false) {graceMs : Nat}
    (hg : graceMs = if state = .broke ∨ 0 < (s.lane n).g then s.graceMs else (s.lane n).graceMs) :
    Stopped s (s.stopLane n state graceMs) n state := by
  have lane := lane_stopLane s n (state := state) graceMs
  have entered : ((s.stopLane n state graceMs).lane n).state = state := stopLane_state s n hs graceMs
  constructor
  case state => exact entered
  case queue => rw [stopLane_arbiter]; simp
  case grace => rw [entered, lane, Lane.judged_graceMs]; exact hg
  case lead =>
    rw [lane]
    exact ⟨Lane.judged_lead_none rfl _, Lane.judged_leadMs ..⟩
  case hotWeb =>
    intro hr
    rw [lane, Lane.judged_hotWeb]
    exact if_pos hr
  all_goals
    rw [lane]
    simp [Lane.stopped, Lane.clearLead, Lane.leaveRunning, Lane.unjudged, State.holdMs]

/-- What a stop of a lane says does not go by what stands beside the lane. -/
theorem Stopped.aside {s u v t : State} {n : LaneId} {state : LaneState} (h : Stopped u v n state)
    (before : Aside n s u) (after : Aside n v t) : Stopped s t n state := by
  have profile : u.profileOf n = s.profileOf n := by
    unfold State.profileOf
    rw [before.lane, before.profiles]
  have load : u.laneLoad n = s.laneLoad n := by
    unfold State.laneLoad State.loadAt
    rw [before.lane, profile]
  exact
    { state := by rw [after.lane]; exact h.state
      key := by rw [after.lane, ← before.lane]; exact h.key
      residual := by rw [after.lane, ← load]; exact h.residual
      hold := by rw [after.lane, ← profile, ← before.cal]; exact h.hold
      g := by rw [after.lane]; exact h.g
      target := by rw [after.lane]; exact h.target
      lead := by rw [after.lane]; exact h.lead
      queue := fun hn => h.queue (after.queue n hn)
      unjudged := by rw [after.lane]; exact h.unjudged
      hotWeb := by rw [after.lane, ← before.lane]; exact h.hotWeb
      grace := by rw [after.lane, ← before.lane, ← before.cal]; exact h.grace }

theorem aside_stopLane {n m : LaneId} (h : m ≠ n) (s : State) (state : LaneState) (graceMs : Nat) :
    Aside n s (s.stopLane m state graceMs) where
  lane := (actsOn_stopLane s m state graceMs).lane_other h.symm
  queue k hk := by
    have : k ∈ s.arbiter.queue.filter (· != m) := hk
    exact (List.mem_filter.1 this).1
  profiles := rfl
  cal := rfl

theorem aside_suspend {n m : LaneId} (h : m ≠ n) (s : State) : Aside n s (s.suspend m) := aside_stopLane h ..

/-- A suspension stops each lane whose state the test names (R58). -/
theorem stopped_suspendWhere (s : State) (test : LaneState → Bool) {n : LaneId} (hn : test (s.lane n).state = true) :
    Stopped s (s.suspendWhere test) n .suspended := by
  have beside (t : State) (m : LaneId) (h : m ≠ n) :
      Aside n t (if test (t.lane m).state then t.suspend m else t) := by
    split
    · exact aside_suspend h t
    · exact .refl n t
  obtain ⟨u, before, after⟩ := walk_apart (Aside.refl n) Aside.trans beside LaneId.nodup_all (LaneId.mem_all n) s
  rw [before.lane, if_pos hn] at after
  refine (stopped_stopLane u n rfl ?_).aside before after
  simp

/-- A suspension takes the lanes it names out of the queue (R50, R58). -/
theorem suspendWhere_arbiter (s : State) (test : LaneState → Bool) : (s.suspendWhere test).arbiter =
    { s.arbiter with queue := s.arbiter.queue.filter fun n => test (s.lane n).state = false } := by
  have walk (ns : List LaneId) (hns : ns.Nodup) (t : State) :
      (ns.foldl (fun t m => if test (t.lane m).state then t.suspend m else t) t).arbiter =
        { t.arbiter with queue := t.arbiter.queue.filter fun n => ¬(n ∈ ns ∧ test (t.lane n).state = true) } := by
    induction ns generalizing t with
    | nil => simp
    | cons m ns ih =>
      obtain ⟨hm, hns⟩ := List.nodup_cons.1 hns
      rw [List.foldl_cons, ih hns]
      split
      next ht =>
        have other (k : LaneId) (hk : k ∈ ns) : (t.suspend m).lane k = t.lane k :=
          (aside_suspend (by rintro rfl; exact hm hk) t).lane
        have arbiter : (t.suspend m).arbiter = _ := stopLane_arbiter ..
        rw [arbiter]
        simp only [List.filter_filter]
        refine congrArg (Arbiter.mk · t.arbiter.stamp t.arbiter.excess t.arbiter.evalMs) (List.filter_congr fun k _ => ?_)
        by_cases e : k = m
        · subst e; simp [ht]
        · by_cases hk : k ∈ ns
          · simp [e, hk, other k hk]
          · simp [e, hk]
      next ht =>
        refine congrArg (Arbiter.mk · t.arbiter.stamp t.arbiter.excess t.arbiter.evalMs) (List.filter_congr fun k _ => ?_)
        by_cases e : k = m
        · subst e; simp [ht]
        · simp [e]
  rw [State.suspendWhere, walk _ (by decide)]
  simp [LaneId.mem_all]

/-- What a suspension does after a change of the dryer and of what hangs on it (R58). -/
structure SuspendsAfter (test : LaneState → Bool) (s u t : State) : Prop where
  stopped : ∀ n, test (s.lane n).state = true → Stopped s t n .suspended
  passed : ∀ n, test (s.lane n).state = false → t.lane n = s.lane n
  arbiter : t.arbiter = { s.arbiter with queue := s.arbiter.queue.filter fun n => test (s.lane n).state = false }
  after : KeepsAllBut (.arbiter :: everyLane) u t
  keeps : KeepsAllBut (everyLane ++ [.arbiter, .dryer, .exhaust, .attention, .horn]) s t

theorem suspendsAfter {s u : State} (h : KeepsAllBut [.dryer, .exhaust, .attention, .horn] s u)
    (test : LaneState → Bool) : SuspendsAfter test s u (u.suspendWhere test) := by
  have lane (n : LaneId) : u.lane n = s.lane n := h.1 (.lane n) (by simp)
  have arbiter : u.arbiter = s.arbiter := h.1 .arbiter (by simp)
  have before (n : LaneId) : Aside n s u := .of_keeps h
  have kept := keepsAllBut_suspendWhere u test
  refine ⟨fun n hn => ?_, fun n hn => ?_, ?_, kept, (h.mono (by decide)).trans (kept.mono (by decide))⟩
  · exact (stopped_suspendWhere u test (by rwa [lane])).aside (before n) (.refl n _)
  · rw [(suspendWhere_state u test n).2 (by rwa [lane]), lane]
  · rw [suspendWhere_arbiter, arbiter]
    simp only [lane]

/-! ## The dryer's timeouts (R89, R92) -/

theorem threadingOrReady_iff {l : LaneState} : l.threadingOrReady = true ↔ l = .threading ∨ l = .ready := by
  cases l <;> decide

theorem threadingOrReady_eq_false {l : LaneState} (h1 : l ≠ .threading) (h2 : l ≠ .ready) :
    l.threadingOrReady = false := by
  cases l <;> first | rfl | contradiction

/-- The state in which a failed purge leaves the dryer, before the lanes are suspended (R89). -/
def State.purgeOver (s : State) : State :=
  { (s.enterDryer .off).latch .purgeFailed with
    dryer := { ((s.enterDryer .off).latch .purgeFailed).dryer with purgeMs := 600000 } }

theorem keepsAllBut_purgeOver (s : State) : KeepsAllBut [.dryer, .exhaust, .attention] s s.purgeOver :=
  ⟨fun q hq => by cases q <;> first | rfl | simp at hq, rfl⟩

theorem exec_purgeFailed {s : State} (hp : s.powered = true) (hd : s.dryer.state = .purge) :
    ∃ t, exec .purgeFailed s = .next t.reform ∧ SuspendsAfter LaneState.threadingOrReady s s.purgeOver t :=
  ⟨_, (exec_powered (i := .purgeFailed) hp :).trans (congrArg Host.Outcome.next (if_pos hd)),
    suspendsAfter ((keepsAllBut_purgeOver s).mono (by simp)) _⟩

/-- Settles O47: the timer's end changes the dryer in its own state, and a failed purge suspends lanes. -/
theorem dryerTimeouts : Obligations.DryerTimeouts := by
  intro s hp
  refine ⟨fun hd => ?_, fun hd => ?_, fun hd => ?_, fun hd => ?_⟩
  · obtain ⟨t, failed, stopped, passed, -, after, -⟩ := exec_purgeFailed hp hd
    have dryer : t.dryer = { s.dryer with state := .off, purgeMs := 600000 } := after.1 .dryer (by decide)
    refine ⟨_, failed, dryer, after.1 .attention (by decide), fun n hn => ?_,
      fun n h1 h2 => passed n (threadingOrReady_eq_false h1 h2), after.1 .exhaust (by decide), ?_,
      formedFrom_reform (after.1 .load (by decide)), ?_⟩
    · exact (stopped n (threadingOrReady_iff.2 hn)).aside (.refl n s) (.of_keeps (keepsAllBut_reform t))
    · show State.formDemand _ = 0
      rw [State.formDemand, dryer]
    · exact keepsAllBut_reformed (((keepsAllBut_purgeOver s).mono (by decide)).trans (after.mono (by decide))) (by decide) (by decide)
  · exact (exec_powered (i := .purgeFailed) hp :).trans (congrArg Host.Outcome.next (if_neg hd))
  · have ended : exec .cooldownTimeout s = .next _ :=
      (exec_powered (i := .cooldownTimeout) hp :).trans (congrArg Host.Outcome.next (if_pos hd))
    refine ⟨_, ended, rfl, rfl, rfl, rfl, formedFrom_reform rfl, keepsAllBut_reformed ?_⟩
    exact ⟨fun q hq => by cases q <;> first | rfl | simp at hq, rfl⟩
  · exact (exec_powered (i := .cooldownTimeout) hp :).trans (congrArg Host.Outcome.next (if_neg hd))

end Sys2Proof.Machine
end

section
/-! PROOF. A confirmed break takes a moving lane to BREAK (R54, R114), by its input's timer or by LBRK, addressed or
broadcast (R115, R116). -/

namespace Sys2Proof.Machine

/-! ## One lane -/

theorem keepsAllBut_startCadence (s : State) : KeepsAllBut [.horn] s s.startCadence := by
  unfold State.startCadence
  split
  · exact .refl _ s
  · exact ⟨fun p hp => by cases p <;> first | rfl | simp at hp, rfl⟩

theorem keepsAllBut_stopLane (s : State) (n : LaneId) (state : LaneState) (graceMs : Nat) :
    KeepsAllBut [.lane n, .arbiter] s (s.stopLane n state graceMs) :=
  (keepsAllBut_removeTarget s n).trans
    (((keepsAllBut_modLane _ n _).mono (by simp)).trans ((keepsAllBut_settle _ n).mono (by simp)))

theorem keepsAllBut_breakLane (s : State) (n : LaneId) :
    KeepsAllBut [.lane n, .arbiter, .attention, .horn] s (s.breakLane n) := by
  unfold State.breakLane
  split
  · exact (((keepsAllBut_stopLane s n ..).mono (by simp)).trans ((keepsAllBut_latchLane _ _ n).mono (by simp))).trans
      ((keepsAllBut_startCadence _).mono (by simp))
  · exact .refl _ s

theorem breakLane_still {s : State} {n : LaneId} (h : (s.lane n).state.moving = false) : s.breakLane n = s :=
  if_neg (by rw [h]; decide)

theorem breakLane_moving {s : State} {n : LaneId} (h : (s.lane n).state.moving = true) :
    s.breakLane n = ((s.stopLane n .broke s.graceMs).latchLane .webBreak n).startCadence := if_pos h

/-- A break of a lane leaves the rest of it as it stops. -/
theorem stopped_breakLane {s : State} {n : LaneId} (h : (s.lane n).state.moving = true) :
    Stopped s (s.breakLane n) n .broke := by
  rw [breakLane_moving h]
  have told := keepsAllBut_latchLane (s.stopLane n .broke s.graceMs) .webBreak n
  exact (stopped_stopLane s n (graceMs := s.graceMs) rfl (by simp)).aside (.refl n s)
    ((Aside.of_keeps told).trans (.of_keeps (keepsAllBut_startCadence _)))

/-- The burners of a broken lane have no permit (R95). -/
theorem burnerPermit_broke {s : State} {n : LaneId} (h : (s.lane n).state = .broke) (z : ZoneId) :
    s.burnerPermit n z = false := by
  rw [← Bool.not_eq_true, burnerPermit_eq_true]
  exact fun ⟨_, hb, _⟩ => hb h

theorem formLines_burners (s : State) (n : LaneId) (z : ZoneId) :
    (s.formLines.burners.get n).get z = s.burnerPermit n z :=
  (congrArg (PerZone.get · z) (PerLane.get_form ..)).trans (PerZone.get_form ..)

theorem breakEffect_breakLane (s : State) (n : LaneId) : BreakEffect s (s.breakLane n).reform n where
  taken h := by
    have stopped := stopped_breakLane h
    have grace := stopped.grace
    rw [stopped.state, if_pos (.inl rfl)] at grace
    refine ⟨stopped.aside (.refl n s) (.of_keeps (keepsAllBut_reform _)), grace, ?_, ?_, ?_, fun z => ?_⟩
    · rw [breakLane_moving h]
      exact (keepsAllBut_startCadence _).1 .attention (by simp)
    · rw [breakLane_moving h]
      exact ((keepsAllBut_startCadence _).1 .arbiter (by simp)).trans (stopLane_arbiter s n .broke s.graceMs)
    · rw [breakLane_moving h]
      unfold State.startCadence
      show (ite _ _ _ : State).horn = _
      split
      next hc => exact (if_pos hc).symm
      next hc =>
        refine Eq.trans ?_ (if_neg hc).symm
        have : s.horn.continuous = false := by simpa using hc
        show Horn.mk _ s.horn.continuous = _
        rw [this]
    · exact (formLines_burners (s.breakLane n) n z).trans (burnerPermit_broke stopped.state z)
  passed h := by
    rw [breakLane_still h]
    exact ⟨rfl, rfl, rfl, rfl⟩

/-- What a break does is said of the state that its command meets, and does not go by the port or the break inputs. -/
theorem BreakEffect.from {s u v t : State} {n : LaneId} (h : BreakEffect u v n)
    (before : KeepsAllBut [.port, .breaks] s u) (after : KeepsAllBut [.port] v t) : BreakEffect s t n := by
  have lane : u.lane n = s.lane n := before.1 (.lane n) (by simp)
  have attention : t.attention = v.attention := after.1 .attention (by simp)
  have arbiter : t.arbiter = v.arbiter := after.1 .arbiter (by simp)
  have horn : t.horn = v.horn := after.1 .horn (by simp)
  have lines : t.lines = v.lines := after.1 .lines (by simp)
  have left : t.lane n = v.lane n := after.1 (.lane n) (by simp)
  have cal : u.cal = s.cal := before.1 .cal (by simp)
  constructor
  · intro hm
    obtain ⟨stopped, grace, told, queue, sounds, burners⟩ := h.taken (by rw [lane]; exact hm)
    refine ⟨stopped.aside (.of_keeps before) (.of_keeps after), ?_, ?_, ?_, ?_, ?_⟩
    · rw [left, grace, cal]
    · rw [attention, told, show u.attention = s.attention from before.1 .attention (by simp)]
    · rw [arbiter, queue, show u.arbiter = s.arbiter from before.1 .arbiter (by simp)]
    · rw [horn, sounds, show u.horn = s.horn from before.1 .horn (by simp)]
    · rw [lines]; exact burners
  · intro hm
    obtain ⟨stays, quiet, queue, sounds⟩ := h.passed (by rw [lane]; exact hm)
    refine ⟨?_, ?_, ?_, ?_⟩
    · rw [left, stays, lane]
    · rw [attention, quiet]; exact before.1 .attention (by simp)
    · rw [arbiter, queue]; exact before.1 .arbiter (by simp)
    · rw [horn, sounds]; exact before.1 .horn (by simp)

/-! ## Every lane -/

/-- What a break of every lane does (R115, R116). -/
structure BreaksAll (s t : State) : Prop where
  moving : ∀ n, (s.lane n).state.moving = true →
    Stopped s t n .broke ∧ t.attention.sets.webBreak &&& n.bit ≠ 0 ∧ t.attention.isLatched .webBreak = true
  still : ∀ n, (s.lane n).state.moving = false → t.lane n = s.lane n
  keeps : KeepsAllBut (everyLane ++ [.arbiter, .attention, .horn]) s t

/-- Beside lane `n` no break latched for it is lost. -/
structure BreakStands (n : LaneId) (s t : State) : Prop extends Aside n s t where
  set : s.attention.sets.webBreak &&& n.bit ≠ 0 → t.attention.sets.webBreak &&& n.bit ≠ 0
  latched : s.attention.isLatched .webBreak = true → t.attention.isLatched .webBreak = true

theorem breakLane_attention {s : State} {n : LaneId} (h : (s.lane n).state.moving = true) :
    (s.breakLane n).attention = s.attention.latchLane .webBreak n := by
  rw [breakLane_moving h]
  exact (keepsAllBut_startCadence _).1 .attention (by simp)

theorem breakStands_breakLane {n m : LaneId} (h : m ≠ n) (s : State) : BreakStands n s (s.breakLane m) := by
  by_cases hm : (s.lane m).state.moving = true
  · refine ⟨?_, fun hs => ?_, fun hs => ?_⟩
    · rw [breakLane_moving hm]
      exact (aside_stopLane h s .broke s.graceMs).trans ((Aside.of_keeps (keepsAllBut_latchLane _ .webBreak m)).trans
        (.of_keeps (keepsAllBut_startCadence _)))
    · rw [breakLane_attention hm]
      exact (or_bit_and_ne_zero ..).2 (.inl hs)
    · rw [breakLane_attention hm, Attention.isLatched_latchLane, hs, Bool.true_or]
  · rw [breakLane_still (by simpa using hm)]
    exact ⟨.refl n s, id, id⟩

theorem breaksAll (s : State) : BreaksAll s (LaneId.all.foldl State.breakLane s) := by
  have walk (n : LaneId) := walk_apart (R := BreakStands n) (op := State.breakLane) (n := n)
    (fun s => ⟨.refl n s, id, id⟩) (fun h h' => ⟨h.toAside.trans h'.toAside, h'.set ∘ h.set, h'.latched ∘ h.latched⟩)
    (fun t m hm => breakStands_breakLane hm t) LaneId.nodup_all (LaneId.mem_all n) s
  refine ⟨fun n hn => ?_, fun n hn => ?_, ?_⟩ 
  · obtain ⟨u, before, after⟩ := walk n
    have hu : (u.lane n).state.moving = true := by rw [before.lane]; exact hn
    refine ⟨(stopped_breakLane hu).aside before.toAside after.toAside, after.set ?_, after.latched ?_⟩
    · rw [breakLane_attention hu]
      exact (or_bit_and_ne_zero ..).2 (.inr rfl)
    · rw [breakLane_attention hu, Attention.isLatched_latchLane]
      simp
  · obtain ⟨u, before, after⟩ := walk n
    rw [breakLane_still (by rw [before.lane]; exact hn)] at after
    exact after.lane.trans before.lane
  · refine foldl_keeps (P := KeepsAllBut (everyLane ++ [.arbiter, .attention, .horn]) s) (fun t n h => h.trans ?_)
      LaneId.all (.refl _ s)
    exact (keepsAllBut_breakLane t n).mono (by cases n <;> decide)

theorem BreaksAll.from {s u v t : State} (h : BreaksAll u v) (before : KeepsAllBut [.port] s u)
    (after : KeepsAllBut [.load, .lines, .port] v t) :
    (∀ n, (s.lane n).state.moving = true →
      Stopped s t n .broke ∧ t.attention.sets.webBreak &&& n.bit ≠ 0 ∧ t.attention.isLatched .webBreak = true) ∧
    (∀ n, (s.lane n).state.moving = false → t.lane n = s.lane n) ∧
    KeepsAllBut (everyLane ++ [.arbiter, .attention, .horn, .load, .lines, .port]) s t := by
  have lane (n : LaneId) : u.lane n = s.lane n := before.1 (.lane n) (by simp)
  have attention : t.attention = v.attention := after.1 .attention (by simp)
  have left (n : LaneId) : t.lane n = v.lane n := after.1 (.lane n) (by simp)
  refine ⟨fun n hn => ?_, fun n hn => ?_, ?_⟩
  · obtain ⟨stopped, told⟩ := h.moving n (by rw [lane]; exact hn)
    rw [attention]
    exact ⟨stopped.aside (.of_keeps before) (.of_keeps after), told⟩
  · rw [left, h.still n (by rw [lane]; exact hn), lane]
  · exact ((before.mono (by decide)).trans (h.keeps.mono (by decide))).trans (after.mono (by decide))

/-- The answer to LBRK names the lanes that entered BREAK (R115). -/
theorem movingSet_and (s : State) (ns : List LaneId) (n : LaneId) :
    s.movingSet ns &&& n.bit ≠ 0 ↔ n ∈ ns ∧ (s.lane n).state.moving = true := by
  have walk (b : BitVec 4) : ns.foldl (fun b m => if (s.lane m).state.moving then b ||| m.bit else b) b &&& n.bit ≠ 0 ↔
      b &&& n.bit ≠ 0 ∨ n ∈ ns ∧ (s.lane n).state.moving = true := by
    induction ns generalizing b with
    | nil => simp
    | cons m ns ih =>
      rw [List.foldl_cons, ih]
      split
      next hm =>
        rw [or_bit_and_ne_zero, List.mem_cons, or_assoc]
        refine or_congr_right ⟨?_, ?_⟩
        · rintro (rfl | ⟨h, h'⟩)
          · exact ⟨.inl rfl, hm⟩
          · exact ⟨.inr h, h'⟩
        · rintro ⟨rfl | h, h'⟩
          · exact .inl rfl
          · exact .inr ⟨h, h'⟩
      next hm =>
        rw [List.mem_cons]
        refine or_congr_right (and_congr_left fun h => (or_iff_right ?_).symm)
        rintro rfl
        exact hm h
  simpa [State.movingSet] using walk 0

theorem zeroExtend_and_ne_zero (a b : BitVec 4) : a.zeroExtend 8 &&& b.zeroExtend 8 ≠ 0 ↔ a &&& b ≠ 0 := by
  revert a b
  decide

/-! ## LBRK -/

theorem LaneId.ofNumber_eq_none {k : Nat} (h : k = 0 ∨ 4 < k) : LaneId.ofNumber k = none := by
  unfold LaneId.ofNumber
  split <;> first | rfl | omega

theorem takeLbrk_one (s : State) (n : LaneId) : takeLbrk (laneBody n) s =
    ((s.breakLane n).reform, .done [if (s.lane n).state.moving = true then n.bit.zeroExtend 8 else 0]) := by
  have named : brokenLanes (byteOf n.number).toNat = some [n] := by cases n <;> rfl
  have set : s.movingSet [n] = if (s.lane n).state.moving = true then n.bit else 0 := by
    simp [State.movingSet]
  unfold takeLbrk laneBody
  dsimp only
  rw [named]
  dsimp only [List.foldl]
  rw [set]
  split <;> rfl

theorem takeLbrk_all (s : State) : takeLbrk [0] s =
    ((LaneId.all.foldl State.breakLane s).reform, .done [(s.movingSet LaneId.all).zeroExtend 8]) := rfl

theorem takeLbrk_refused (s : State) {k : Byte} (hk : 4 < k.toNat) : takeLbrk [k] s = (s, .refused 3 1) := by
  have named : brokenLanes k.toNat = none := by
    unfold brokenLanes
    split
    next h => omega
    · rw [LaneId.ofNumber_eq_none (.inr hk)]; rfl
  unfold takeLbrk
  dsimp only
  rw [named]
  rfl

section
variable {s : State} (h : Listening s) {body : List Byte} (hb : body.length ≤ 96)
include h hb

/-- A broadcast LBRK is taken without an answer (R116, R131). -/
theorem Listening.exec_lbrkBroadcast {t : State} {b : List Byte} (ht : takeLbrk body s.taking = (t, .done b)) :
    exec (.lbrkBroadcast body) s = .next t.hunt := by
  have owner : ownerOf codeLbrk = some takeLbrk := rfl
  show Host.Outcome.next (s.frameArrives .broadcast codeLbrk body) = _
  rw [h.frameArrives _ _ hb]
  show Host.Outcome.next (s.taking.takeBroadcast codeLbrk body) = _
  unfold State.takeBroadcast
  rw [if_pos (.inr rfl), owner]
  dsimp only
  rw [ht]

theorem Listening.exec_lbrkBroadcast_refused {a b : Byte} (ht : takeLbrk body s.taking = (s.taking, .refused a b)) :
    exec (.lbrkBroadcast body) s = .next (s.taking.discard .broadcast) := by
  have owner : ownerOf codeLbrk = some takeLbrk := rfl
  show Host.Outcome.next (s.frameArrives .broadcast codeLbrk body) = _
  rw [h.frameArrives _ _ hb]
  show Host.Outcome.next (s.taking.takeBroadcast codeLbrk body) = _
  unfold State.takeBroadcast
  rw [if_pos (.inr rfl), owner]
  dsimp only
  rw [ht]

end

theorem keepsAllBut_hunt (s : State) : KeepsAllBut [.port] s s.hunt :=
  ⟨fun p hp => by cases p <;> first | rfl | simp at hp, rfl⟩

theorem huntingOn_hunt {s t : State} (h : t.port = s.taking.port) : t.hunt.port = huntingOn s.port := by
  unfold State.hunt
  rw [h]
  rfl

/-- Settles O41: each command runs the break of its lanes on the state that it meets. -/
theorem breakTakesLane : Obligations.BreakTakesLane := by
  refine ⟨fun s n hp => ⟨fun ms hms => ?_, fun hn => ?_⟩, fun s n h => ⟨fun ha => ?_, ?_⟩, fun s h => ?_, fun s h => ?_,
    fun s k h hk => ⟨?_, ?_⟩⟩
  · set u := s.setBreakInput n { s.breakInput n with timer := none } with hu
    have fired : exec (.confirmedBreak n) s = .next (u.breakLane n).reform := by
      rw [exec_powered (i := .confirmedBreak n) hp, hms]
    have input : KeepsAllBut [.breaks] s u := ⟨fun p hp => by cases p <;> first | rfl | simp at hp, rfl⟩
    have broken := keepsAllBut_breakLane u n
    have breaks : (u.breakLane n).reform.breaks = u.breaks := broken.1 .breaks (by simp)
    have port : (u.breakLane n).port = s.port := broken.1 .port (by simp)
    refine ⟨_, fired, port, ?_, fun m hm => ?_, ?_, ?_⟩
    · exact (congrArg (PerLane.get · n) breaks).trans (PerLane.get_set_same ..)
    · exact (congrArg (PerLane.get · m) breaks).trans (PerLane.get_set_other _ _ hm)
    · exact (breakEffect_breakLane u n).from (input.mono (by simp)) (.refl _ _)
    · exact keepsAllBut_reformed ((input.mono (by simp)).trans (broken.mono (by simp)))
  · rw [exec_powered (i := .confirmedBreak n) hp, hn]
  · have taken := (⟨h, ha⟩ : ListeningAt s).exec_request (c := .lbrk (laneBody n)) rfl rfl (by simp [laneBody])
      (takeLbrk_one s.taking n)
    have broken := keepsAllBut_breakLane s.taking n
    have port : (s.taking.breakLane n).reform.port = s.taking.port := broken.1 .port (by simp)
    refine ⟨_, taken, prepareAnswer_port port .., ?_, keepsAllBut_answered (broken.mono (by simp)) (by simp) (by simp)
      (by simp) ..⟩
    exact (breakEffect_breakLane s.taking n).from ((keepsAllBut_taking s).mono (by simp)) (keepsAllBut_prepareAnswer ..)
  · have taken := h.exec_lbrkBroadcast (by simp [laneBody]) (takeLbrk_one s.taking n)
    have broken := keepsAllBut_breakLane s.taking n
    have port : (s.taking.breakLane n).reform.port = s.taking.port := broken.1 .port (by simp)
    refine ⟨_, taken, huntingOn_hunt port, ?_, ?_⟩
    · exact (breakEffect_breakLane s.taking n).from ((keepsAllBut_taking s).mono (by simp)) (keepsAllBut_hunt _)
    · exact (((keepsAllBut_taking s).mono (by simp)).trans (keepsAllBut_reformed (broken.mono (by simp)))).trans
        ((keepsAllBut_hunt _).mono (by simp))
  · have taken := h.exec_lbrkBroadcast (by simp) (takeLbrk_all s.taking)
    have all := breaksAll s.taking
    have port : (LaneId.all.foldl State.breakLane s.taking).reform.port = s.taking.port := all.keeps.1 .port (by decide)
    exact ⟨_, taken, huntingOn_hunt port, all.from (keepsAllBut_taking s)
      (((keepsAllBut_reform _).mono (by simp)).trans ((keepsAllBut_hunt _).mono (by simp)))⟩
  · have taken := h.exec_request (c := .lbrk [0]) rfl rfl (by simp) (takeLbrk_all s.taking)
    have all := breaksAll s.taking
    have port : (LaneId.all.foldl State.breakLane s.taking).reform.port = s.taking.port := all.keeps.1 .port (by decide)
    refine ⟨_, _, taken, prepareAnswer_port port .., fun n => ?_, all.from (keepsAllBut_taking s) (keepsAllBut_answer ..)⟩
    rw [zeroExtend_and_ne_zero, movingSet_and]
    exact and_iff_right (LaneId.mem_all n)
  · exact h.exec_onlyAnswered rfl rfl (by simp) (takeLbrk_refused _ hk)
  · exact h.toListening.exec_lbrkBroadcast_refused (by simp) (takeLbrk_refused _ hk)

end Sys2Proof.Machine
end

section
/-! PROOF. DSTOP (R58, R91, R92): the dryer cools, or is off at once where the housing is cool. -/

namespace Sys2Proof.Machine

/-- The state in which COOLDOWN begins, before the lanes are suspended (R91). -/
def State.cooling (s : State) : State :=
  { s.enterDryer .cooldown with dryer := { (s.enterDryer .cooldown).dryer with cooldownMs := 0 } }

theorem keepsAllBut_cooling (s : State) : KeepsAllBut [.dryer, .exhaust] s s.cooling :=
  ⟨fun q hq => by cases q <;> first | rfl | simp at hq, rfl⟩

theorem keepsAllBut_endCooldown (s : State) : KeepsAllBut [.dryer, .exhaust, .attention] s s.endCooldown :=
  ⟨fun q hq => by cases q <;> first | rfl | simp at hq, rfl⟩

/-- The housing is cool by the zone channels and the cooldown temperature alone (R92). -/
theorem housingCool_congr {s t : State} (readings : t.readings = s.readings) (cal : t.cal = s.cal) :
    t.housingCool = s.housingCool := by
  unfold State.housingCool
  simp only [reading_congr readings, cal]

/-- What the entry to COOLDOWN does (R58, R91, R92). -/
structure Cools (s t : State) : Prop where
  dryer : t.dryer = { s.dryer with state := if s.housingCool = true then .off else .cooldown, cooldownMs := 0 }
  latched : t.attention.latched =
    if s.housingCool = true then s.attention.latched ||| 0x20000 else s.attention.latched
  stopped : ∀ n, (s.lane n).state = .threading ∨ (s.lane n).state = .ready → Stopped s t n .suspended
  passed : ∀ n, (s.lane n).state ≠ .threading → (s.lane n).state ≠ .ready → t.lane n = s.lane n
  exhaust : t.exhaust = { s.exhaust with zeroRun := 0 }
  keeps : KeepsAllBut (everyLane ++ [.arbiter, .dryer, .exhaust, .attention]) s t

theorem cools_enterCooldown (s : State) : Cools s s.enterCooldown := by
  have begun := keepsAllBut_cooling s
  show Cools s (s.cooling.suspendWhere LaneState.threadingOrReady).testCool
  obtain ⟨stopped, passed, -, after, -⟩ := suspendsAfter (begun.mono (by simp)) LaneState.threadingOrReady
  generalize s.cooling.suspendWhere LaneState.threadingOrReady = v at *
  have kept : KeepsAllBut (everyLane ++ [.arbiter, .dryer, .exhaust, .attention]) s v :=
    (begun.mono (by decide)).trans (after.mono (by decide))
  have dryer : v.dryer = { s.dryer with state := .cooldown, cooldownMs := 0 } := after.1 .dryer (by decide)
  have exhaust : v.exhaust = { s.exhaust with zeroRun := 0 } := after.1 .exhaust (by decide)
  have attention : v.attention = s.attention := after.1 .attention (by decide)
  have cool : v.housingCool = s.housingCool :=
    housingCool_congr (kept.1 .readings (by decide)) (kept.1 .cal (by decide))
  have named {n : LaneId} (hn : (s.lane n).state = .threading ∨ (s.lane n).state = .ready) : Stopped s v n .suspended :=
    stopped n (threadingOrReady_iff.2 hn)
  have others {n : LaneId} (h1 : (s.lane n).state ≠ .threading) (h2 : (s.lane n).state ≠ .ready) :
      v.lane n = s.lane n := passed n (threadingOrReady_eq_false h1 h2)
  unfold State.testCool
  rw [cool, dryer]
  by_cases hc : s.housingCool = true
  · have ended := keepsAllBut_endCooldown v
    rw [if_pos ⟨rfl, hc⟩]
    refine ⟨?_, ?_, fun n hn => (named hn).aside (.refl n s) (.of_keeps ended), fun n h1 h2 => ?_, ?_,
      kept.trans (ended.mono (by decide))⟩
    · rw [if_pos hc]
      show { v.dryer with state := .off } = _
      rw [dryer]
    · rw [if_pos hc, ← attention]
      rfl
    · exact (ended.1 (.lane n) (by simp)).trans (others h1 h2)
    · show { v.exhaust with zeroRun := 0 } = _
      rw [exhaust]
  · rw [if_neg fun e => hc e.2]
    exact ⟨by rw [if_neg hc]; exact dryer, by rw [if_neg hc, attention], fun n hn => named hn,
      fun n h1 h2 => others h1 h2, exhaust, kept⟩

/-! ## The request -/

theorem anyRunning_iff {s : State} : s.anyRunning = true ↔ ∃ n, (s.lane n).state = .running := by
  simp [State.anyRunning, LaneId.mem_all]

theorem takeDstop_taken {s : State} (h : s.dryer.state = .purge ∨ s.dryer.state = .safeHold ∨
    s.dryer.state = .heating ∧ ∀ n, (s.lane n).state ≠ .running) :
    takeDstop [] s = (s.enterCooldown.reform, .done [s.enterCooldown.dryer.state.code]) := by
  unfold takeDstop
  rcases h with h | h | ⟨h, hr⟩
  · simp [h]
  · simp [h]
  · have none : s.anyRunning = false := by
      rw [← Bool.not_eq_true, anyRunning_iff]
      exact fun ⟨n, e⟩ => hr n e
    simp [h, none]

/-- Settles O38: a taken DSTOP enters COOLDOWN; it is refused where a lane runs. -/
theorem dstopCools : Obligations.DstopCools := by
  intro s h
  refine ⟨fun hd => ?_, fun hd hr => ?_, fun hd => ?_⟩
  · obtain ⟨dryer, latched, stopped, passed, exhaust, keeps⟩ := cools_enterCooldown s.taking
    have taken := h.exec_request (c := .dstop []) rfl rfl (by simp) (takeDstop_taken (s := s.taking) hd)
    generalize s.taking.enterCooldown = t at *
    have port : t.reform.port = s.taking.port := keeps.1 .port (by decide)
    refine ⟨_, taken, prepareAnswer_port port .., dryer, latched, fun n hn => ?_, passed, exhaust,
      formedFrom_answered (s := s) (keeps.1 .load (by decide)) .., ?_⟩
    · exact (stopped n hn).aside (.of_keeps (keepsAllBut_taking s)) (.of_keeps (keepsAllBut_answer ..))
    · exact keepsAllBut_answered (keeps.mono (by decide)) (by decide) (by decide) (by decide) ..
  · refine h.exec_onlyAnswered rfl rfl (by simp) ?_
    have state : s.taking.dryer.state = .heating := hd
    have running : s.taking.anyRunning = true := anyRunning_iff.2 hr
    simp [takeDstop, state, running, Reply.lanesRunning]
  · refine h.exec_onlyAnswered rfl rfl (by simp) ?_
    unfold takeDstop
    rcases hd with hd | hd
    · have state : s.taking.dryer.state = .off := hd
      simp [state, hd]
    · have state : s.taking.dryer.state = .cooldown := hd
      simp [state, hd]

end Sys2Proof.Machine
end

section
/-! PROOF. LCLR (R56) and LSPD (R51, R52, R53): what the request makes of its lane. -/

namespace Sys2Proof.Machine

/-! ## A lane judged again -/

section
variable {l : Lane} {b : Option Bool}

/-- A lead that is not LEADING in band is no matter to a judgement (R79). -/
theorem Lane.led_of_not_leading (h : l.isLeading = true → b ≠ some true) (hb : b = some true) :
    l.lead.map (fun d => { d with status := .led }) = l.lead := by
  have led : l.isLeading = false := by
    rw [← Bool.not_eq_true]
    exact fun e => h e hb
  unfold Lane.isLeading at led
  cases hl : l.lead with
  | none => rfl
  | some d =>
    obtain ⟨band, status⟩ := d
    cases status <;> simp_all

/-- A THREADING lane whose lead is not LEADING in band goes by its zones (R47). -/
theorem Lane.judged_of_threading (inBand : l.inBand = b) (leading : l.isLeading = true → b ≠ some true)
    (h : l.state = .threading) : l.judged b = { l with state := if b = some true then .ready else .threading } := by
  have led := Lane.led_of_not_leading leading
  cases l
  subst h
  rcases b with _ | _ | _ <;> subst inBand
  · rfl
  · rfl
  · simp only [Lane.judged, if_true, led rfl]

/-- A lane that stands still without a lead is left as it was. -/
theorem Lane.judged_of_still (lead : l.lead = none) (inBand : l.inBand = b) (h : l.state.moving = false) : l.judged b = l := by
  have threading : l.state ≠ .threading := fun e => by rw [e] at h; cases h
  have ready : l.state ≠ .ready := fun e => by rw [e] at h; cases h
  cases l
  subst lead
  rcases b with _ | _ | _ <;> subst inBand
  · rfl
  · simp only [Lane.judged, if_neg ready]
  · simp only [Lane.judged, if_neg threading, Option.map_none]

end

/-! ## LCLR -/

section
variable {s : State} {n : LaneId}

theorem takeLclr_broke (h : (s.lane n).state = .broke) : takeLclr (laneBody n) s = (s, .residual) := by
  simp [takeLclr, laneBody, h]

theorem takeLclr_active (h : (s.lane n).state = .broken) (ha : s.inputActive n = true) :
    takeLclr (laneBody n) s = (s, .inputActive) := by
  simp [takeLclr, laneBody, h, ha]

theorem takeLclr_wrongState (h : (s.lane n).state ≠ .broke) (h' : (s.lane n).state ≠ .broken) :
    takeLclr (laneBody n) s = (s, .wrongState) := by
  unfold takeLclr laneBody
  cases e : (s.lane n).state <;> simp_all

theorem takeLclr_taken (h : (s.lane n).state = .broken) (ha : s.inputActive n = false) : takeLclr (laneBody n) s =
    (((s.modLane n fun l => { l with state := if s.purgingOrHeating then .threading else .suspended }).settle n).reform,
      .done []) := by
  simp [takeLclr, laneBody, h, ha]

/-- The lane that LCLR returns: its record of before in its new state. -/
theorem lane_returned (l : Sound s) (h : (s.lane n).state = .broken) :
    ((s.modLane n fun l => { l with state := if s.purgingOrHeating then .threading else .suspended }).settle n).lane n =
      { s.lane n with state := if s.dryer.state = .purge ∨ s.dryer.state = .heating then
          (if s.zonesInBand n = some true then .ready else .threading) else .suspended } := by
  obtain ⟨-, aimed, banded⟩ := SoundAs.lane l n
  have lead : (s.lane n).lead = none := by
    by_contra e
    obtain ⟨d, hd⟩ := Option.ne_none_iff_exists'.1 e
    have moving := aimed.moving (aimed.lead d hd).1
    rw [h] at moving
    cases moving
  have zones : (s.modLane n fun l => { l with state := if s.purgingOrHeating then .threading else .suspended }).zonesInBand n =
      s.zonesInBand n :=
    State.zonesInBand_congr (by rw [State.lane_modLane_same]) (fun _ => by rw [State.lane_modLane_same]; rfl) rfl rfl rfl
  rw [State.lane_settle_same, State.lane_modLane_same, zones]
  by_cases hp : s.purgingOrHeating = true
  · rw [if_pos hp, if_pos (purgingOrHeating_iff.1 hp),
      Lane.judged_of_threading (l := { s.lane n with state := .threading }) banded.formed
        (fun e => by simp [Lane.isLeading, lead] at e) rfl]
  · rw [if_neg hp, if_neg (mt purgingOrHeating_iff.2 hp),
      Lane.judged_of_still (l := { s.lane n with state := .suspended }) lead banded.formed rfl]

end

/-- Settles O36: a BROKEN lane away from its active level returns; every other lane is refused. -/
theorem lclrClears : Obligations.LclrClears := by
  intro s n h l
  have refused {r : Reply} (ht : takeLclr (laneBody n) s.taking = (s.taking, r)) :=
    h.exec_onlyAnswered (c := .lclr (laneBody n)) rfl rfl (by simp [laneBody]) ht
  refine ⟨fun hs ha => ?_, fun hs ha => refused (takeLclr_active (s := s.taking) hs ha),
    fun hs => refused (takeLclr_broke (s := s.taking) hs),
    fun hb hs => refused (takeLclr_wrongState (s := s.taking) hb hs)⟩
  have taken := h.exec_request (c := .lclr (laneBody n)) rfl rfl (by simp [laneBody])
    (takeLclr_taken (s := s.taking) hs ha)
  have kept := (keepsAllBut_modLane s.taking n fun l =>
    { l with state := if s.taking.purgingOrHeating then .threading else .suspended }).trans (keepsAllBut_settle _ n)
  have sound : Sound s.taking := (soundTable_invariant.setIdle l.soundTable _).sound
  exact ⟨_, taken, prepareAnswer_port rfl .., lane_returned (s := s.taking) sound hs, ⟨rfl, rfl⟩,
    keepsAllBut_answered (kept.mono (by simp)) (by simp) (by simp) (by simp) ..⟩

end Sys2Proof.Machine
end

section
/-! PROOF. LSPD (R51): a target taken at once (R52), a target queued (R53), and the refusals. -/

namespace Sys2Proof.Machine

/-! ## What its owner answers -/

section
variable {s : State} {n : LaneId} {v1 v0 : Byte}

theorem takeLspd_wrongState (h : (s.lane n).state.moving = false) :
    takeLspd (laneBody n ++ [v1, v0]) s = (s, .wrongState) := by
  simp [takeLspd, laneBody, h]

theorem takeLspd_lane {k : Byte} (hk : k = 0 ∨ 4 < k.toNat) : takeLspd [k, v1, v0] s = (s, .refused 3 1) := by
  have none : LaneId.ofNumber k.toNat = none := LaneId.ofNumber_eq_none (hk.imp_left fun e => by rw [e]; rfl)
  unfold takeLspd
  dsimp only
  rw [none]
  rfl

variable (hm : (s.lane n).state.moving = true)
include hm

theorem takeLspd_notHeating (hd : s.dryer.state ≠ .heating) :
    takeLspd (laneBody n ++ [v1, v0]) s = (s, .notHeating) := by
  simp [takeLspd, laneBody, hm, hd]

variable (hd : s.dryer.state = .heating) {T : Nat} (hT : T = s.clampedTarget n (read2 v1 v0))
include hd hT

theorem takeLspd_now (hg : T ≤ (s.lane n).g ∨ T ≤ s.cal.values.crawl) : takeLspd (laneBody n ++ [v1, v0]) s =
    (((s.takeTargetNow n T).settle n).reform, .done
      (be2 (((s.takeTargetNow n T).settle n).lane n).g ++ be2 ((((s.takeTargetNow n T).settle n).lane n).target.getD 0))) := by
  have down : ¬((s.lane n).g < T ∧ s.cal.values.crawl < T) := by omega
  simp [takeLspd, laneBody, hm, hd, ← hT, down]

variable (hg : (s.lane n).g < T) (hc : s.cal.values.crawl < T)
include hg hc

theorem takeLspd_silent (hs : s.heartbeat.silent = true) : takeLspd (laneBody n ++ [v1, v0]) s = (s, .silent) := by
  simp [takeLspd, laneBody, hm, hd, ← hT, hg, hc, hs]

theorem takeLspd_queued (hs : s.heartbeat.silent = false) : takeLspd (laneBody n ++ [v1, v0]) s =
    (((s.queueTarget n T).settle n).reform, .done
      (be2 (((s.queueTarget n T).settle n).lane n).g ++ be2 ((((s.queueTarget n T).settle n).lane n).target.getD 0))) := by
  simp [takeLspd, laneBody, hm, hd, ← hT, hg, hc, hs]

end

/-! ## A target taken at once -/

/-- What a target taken at once makes of the lane's record (R52, R49). -/
structure Lane.TakesNow (l m : Lane) (T crawl graceMs : Nat) : Prop where
  g : m.g = T
  target : m.target = none
  lead : m.lead = none
  leadMs : m.leadMs = 0
  stamp : m.stamp = l.stamp
  key : m.key = l.key
  graceMs : m.graceMs = if T < l.g then graceMs else l.graceMs
  running : m.state = .running ↔ l.state = .running ∧ ¬(T < l.g ∧ T ≤ crawl)
  moving : m.state.moving = l.state.moving

theorem Lane.TakesNow.judged {l m : Lane} {T crawl graceMs : Nat} (h : l.TakesNow m T crawl graceMs) (b : Option Bool) :
    l.TakesNow (m.judged b) T crawl graceMs where
  g := by rw [Lane.judged_g, h.g]
  target := by rw [Lane.judged_target, h.target]
  lead := Lane.judged_lead_none h.lead b
  leadMs := by rw [Lane.judged_leadMs, h.leadMs]
  stamp := by rw [Lane.judged_stamp, h.stamp]
  key := by rw [Lane.judged_key, h.key]
  graceMs := by rw [Lane.judged_graceMs, h.graceMs]
  running := by rw [Lane.judged_running, h.running]
  moving := by rw [Lane.judged_moving, h.moving]

theorem Lane.decreased_running (l : Lane) (g crawl graceMs : Nat) :
    (l.decreased g crawl graceMs).state = .running ↔ l.state = .running ∧ ¬g ≤ crawl := by
  by_cases h : l.state = .running ∧ g ≤ crawl
  · rw [(Lane.decreased_leaves _ _ _ _ h).1]
    exact iff_of_false nofun fun e => e.2 h.2
  · rw [(Lane.decreased_stays _ _ _ _ h).1]
    exact ⟨fun e => ⟨e, fun hc => h ⟨e, hc⟩⟩, And.left⟩

theorem takesNow_takeTargetNow (s : State) (n : LaneId) (T : Nat) :
    (s.lane n).TakesNow ((s.takeTargetNow n T).lane n) T s.cal.values.crawl s.graceMs := by
  unfold State.takeTargetNow
  split
  next hlt =>
    obtain ⟨b, e⟩ := lane_decrease_same s n T
    rw [State.lane_removeTarget_same, e]
    have moving := (((s.lane n).decreased T s.cal.values.crawl s.graceMs).judged_moving b).trans (Lane.decreased_moving ..)
    have running := (((s.lane n).decreased T s.cal.values.crawl s.graceMs).judged_running b).trans (Lane.decreased_running ..)
    exact
      { g := by rw [Lane.clearLead]; exact (Lane.judged_g ..).trans (Lane.decreased_g ..)
        target := rfl
        lead := rfl
        leadMs := rfl
        stamp := (Lane.judged_stamp ..).trans (steady_decreased ..).stamp
        key := (Lane.judged_key ..).trans (steady_decreased ..).key
        graceMs := by rw [if_pos hlt]; exact (Lane.judged_graceMs ..).trans (Lane.decreased_graceMs ..)
        running := running.trans (and_congr_right fun _ => by simp [hlt])
        moving := moving }
  next hge =>
    split
    next e =>
      rw [State.lane_removeTarget_same]
      exact ⟨e.symm, rfl, rfl, rfl, rfl, rfl, (if_neg hge).symm, by simp [hge, Lane.clearLead], rfl⟩
    next =>
      rw [State.lane_modLane_same, State.lane_removeTarget_same]
      exact ⟨rfl, rfl, rfl, rfl, rfl, rfl, (if_neg hge).symm, by simp [hge, Lane.clearLead], rfl⟩

theorem takeTargetNow_arbiter (s : State) (n : LaneId) (T : Nat) :
    (s.takeTargetNow n T).arbiter = { s.arbiter with queue := s.arbiter.queue.filter (· ≠ n) } := by
  have removed (t : State) (ht : t.arbiter = s.arbiter) :
      (t.removeTarget n).arbiter = { s.arbiter with queue := s.arbiter.queue.filter (· ≠ n) } := by
    have queue : s.arbiter.queue.filter (· != n) = s.arbiter.queue.filter (· ≠ n) :=
      List.filter_congr fun m _ => by simp [bne, beq_eq_decide]
    rw [← queue, ← ht]
    rfl
  unfold State.takeTargetNow
  split
  · exact removed _ rfl
  · split
    · exact removed s rfl
    · exact removed s rfl

theorem keepsAllBut_takeTargetNow (s : State) (n : LaneId) (T : Nat) :
    KeepsAllBut [.lane n, .arbiter] s (s.takeTargetNow n T) := by
  have removed (t : State) : KeepsAllBut [.lane n, .arbiter] t (t.removeTarget n) := keepsAllBut_removeTarget t n
  unfold State.takeTargetNow
  split
  · exact (((keepsAllBut_modLane s n _).trans (keepsAllBut_settle _ n)).mono (by simp)).trans (removed _)
  · split
    · exact removed s
    · exact (removed s).trans ((keepsAllBut_modLane _ n _).mono (by simp))

theorem formLines_speed (s : State) (n : LaneId) : s.formLines.speed.get n = (s.lane n).g * 1023 / 1200 :=
  PerLane.get_form ..

/-- Settles O34: a target that is not above crawl and g becomes g at once. -/
theorem lspdTakenAtOnce : Obligations.LspdTakenAtOnce := by
  intro s n v1 v0 T hT h hm hd hg
  have taken := h.exec_request (c := .lspd (laneBody n ++ [v1, v0])) rfl rfl (by simp [laneBody])
    (takeLspd_now (s := s.taking) hm hd hT hg)
  have now := (takesNow_takeTargetNow s.taking n T).judged ((s.taking.takeTargetNow n T).zonesInBand n)
  rw [← State.lane_settle_same] at now
  have kept := (keepsAllBut_takeTargetNow s.taking n T).trans ((keepsAllBut_settle _ n).mono (by simp))
  have arbiter : ((s.taking.takeTargetNow n T).settle n).arbiter = _ := takeTargetNow_arbiter s.taking n T
  generalize (s.taking.takeTargetNow n T).settle n = t at *
  obtain ⟨g, target, lead, leadMs, stamp, key, grace, running, moving⟩ := now
  rw [g, target] at taken
  refine ⟨_, taken, prepareAnswer_port (kept.1 .port (by simp)) .., g, target, lead, leadMs, stamp, key, grace, running,
    moving.trans hm, arbiter, ?_, formedFrom_answered (s := s) (kept.1 .load (by simp)) ..,
    keepsAllBut_answered (kept.mono (by simp)) (by simp) (by simp) (by simp) ..⟩
  exact (formLines_speed t n).trans (by rw [g])

/-! ## A target queued -/

theorem keepsAllBut_joinQueue (s : State) (n : LaneId) : KeepsAllBut [.arbiter] s (s.joinQueue n) := by
  unfold State.joinQueue
  split
  · exact .refl _ s
  · exact ⟨fun p hp => by cases p <;> first | rfl | simp at hp, rfl⟩

theorem keepsAllBut_queueTarget (s : State) (n : LaneId) (T : Nat) :
    KeepsAllBut [.lane n, .arbiter] s (s.queueTarget n T) := by
  rw [queueTarget_eq]
  exact ((keepsAllBut_modLane s n _).mono (by simp)).trans ((keepsAllBut_joinQueue _ n).mono (by simp))

/-- What a queued target makes of the lane's record (R53). -/
structure Lane.Queues (l m : Lane) (T crawl : Nat) (bands : List Band) : Prop where
  g : m.g = max l.g crawl
  target : m.target = some T
  stamp : m.stamp = l.stamp
  graceMs : m.graceMs = l.graceMs
  key : m.key = l.key
  lead : T ≤ boundOf bands m.g → m.lead = none
  running : m.state = .running ↔ l.state = .running
  moving : m.state.moving = l.state.moving

theorem Lane.queues_aimedAt (l : Lane) (T crawl : Nat) (bands : List Band) (b : Option Bool) :
    l.Queues ((l.aimedAt T crawl bands).judged b) T crawl bands where
  g := Lane.judged_g ..
  target := Lane.judged_target ..
  stamp := Lane.judged_stamp ..
  graceMs := Lane.judged_graceMs ..
  key := Lane.judged_key ..
  lead := by
    rw [Lane.judged_g]
    exact fun h => Lane.judged_lead_none (if_pos h) b
  running := Lane.judged_running ..
  moving := Lane.judged_moving ..

theorem queues_queueTarget (s : State) (n : LaneId) (T : Nat) :
    (s.lane n).Queues (((s.queueTarget n T).settle n).lane n) T s.cal.values.crawl (s.bandsOf n) := by
  rw [State.lane_settle_same, lane_queueTarget]
  exact Lane.queues_aimedAt ..

theorem queueTarget_arbiter (s : State) (n : LaneId) (T : Nat) : (s.queueTarget n T).arbiter = { s.arbiter with
    queue := if n ∈ s.arbiter.queue then s.arbiter.queue else s.arbiter.queue ++ [n] } := by
  rw [queueTarget_eq, State.joinQueue_arbiter]
  rfl

theorem moving_eq_false {l : LaneState}
    (h : l = .unthreaded ∨ l = .broke ∨ l = .broken ∨ l = .suspended) : l.moving = false := by
  rcases h with rfl | rfl | rfl | rfl <;> rfl

theorem moving_eq_true {l : LaneState} (h : l = .threading ∨ l = .ready ∨ l = .running) : l.moving = true := by
  rcases h with rfl | rfl | rfl <;> rfl

/-- Settles O35: a target above crawl and g is recorded, and its lane has an entry; the refusals come first. -/
theorem lspdQueues : Obligations.LspdQueues := by
  refine ⟨fun s v1 v0 h => ⟨fun n hs => ?_, fun n hs hd => ?_, fun k hk => ?_⟩,
    fun s n v1 v0 T hT h hm hd hg hc => ⟨fun hs => ?_, fun hs => ?_⟩⟩
  · exact h.exec_onlyAnswered rfl rfl (by simp [laneBody]) (takeLspd_wrongState (s := s.taking) (moving_eq_false hs))
  · exact h.exec_onlyAnswered rfl rfl (by simp [laneBody])
      (takeLspd_notHeating (s := s.taking) (moving_eq_true hs) hd)
  · exact h.exec_onlyAnswered rfl rfl (by simp) (takeLspd_lane hk)
  · have taken := h.exec_request (c := .lspd (laneBody n ++ [v1, v0])) rfl rfl (by simp [laneBody])
      (takeLspd_queued (s := s.taking) hm hd hT hg hc hs)
    have queues := queues_queueTarget s.taking n T
    have kept := (keepsAllBut_queueTarget s.taking n T).trans ((keepsAllBut_settle _ n).mono (by simp))
    have arbiter : ((s.taking.queueTarget n T).settle n).arbiter = _ := queueTarget_arbiter s.taking n T
    generalize (s.taking.queueTarget n T).settle n = t at *
    obtain ⟨g, target, stamp, grace, key, lead, running, moving⟩ := queues
    rw [g, target] at taken
    exact ⟨_, taken, prepareAnswer_port (kept.1 .port (by simp)) .., g, target, stamp, grace, key, lead, running,
      moving.trans hm, arbiter, formedFrom_answered (s := s) (kept.1 .load (by simp)) ..,
      keepsAllBut_answered (kept.mono (by simp)) (by simp) (by simp) (by simp) ..⟩
  · exact h.exec_onlyAnswered rfl rfl (by simp [laneBody]) (takeLspd_silent (s := s.taking) hm hd hT hg hc hs)

end Sys2Proof.Machine
end

section
/-! PROOF. Flow pulses and flow windows (R84, R85, R87): the entry to HEATING with its break inputs (R59, R88, R114), and a
lost flow (R94). -/

namespace Sys2Proof.Machine

/-! ## Lanes that return from SUSPENDED (R59) -/

theorem keepsAllBut_resume (s : State) (n : LaneId) : KeepsAllBut [.lane n, .breaks] s (s.resume n) := by
  unfold State.resume
  split
  · exact (((keepsAllBut_modLane s n _).mono (by simp)).trans ((keepsAllBut_checkInput _ n).mono (by simp))).trans
      ((keepsAllBut_settle _ n).mono (by simp))
  · exact .refl _ s

theorem breakInput_resume_other (s : State) {n m : LaneId} (h : m ≠ n) : (s.resume n).breakInput m = s.breakInput m := by
  unfold State.resume
  split
  · exact State.breakInput_checkInput_other _ h
  · rfl

/-- The input of a lane that returns, at its active level with an idle timer, starts its confirmation (R114). -/
theorem breakInput_resume_same (s : State) (n : LaneId) : (s.resume n).breakInput n = { s.breakInput n with
    timer := if (s.lane n).state = .suspended ∧ s.inputActive n = true ∧ (s.breakInput n).timer = none then
      some s.cal.values.confirmMs else (s.breakInput n).timer } := by
  unfold State.resume
  split
  next hs =>
    refine (State.breakInput_checkInput_same ..).trans ?_
    simp only [hs, true_and]
    rfl
  next hs => simp [hs]

/-- What a lane's zones agree on, as far as its return goes (R105, R79). -/
structure Agrees (s : State) (n : LaneId) : Prop where
  formed : (s.lane n).inBand = s.zonesInBand n
  leading : (s.lane n).isLeading = true → s.zonesInBand n ≠ some true

theorem InBandLaw.agrees {s : State} (l : InBandLaw s) (n : LaneId) : Agrees s n :=
  ⟨l.formed n, fun h => l.formed n ▸ l.leading n h⟩

theorem lane_resume {s : State} {n : LaneId} (h : (s.lane n).state = .suspended) (a : Agrees s n) :
    (s.resume n).lane n = { s.lane n with
      state := if s.zonesInBand n = some true then .ready else .threading, residual := none, residualMs := 0 } := by
  set t := s.modLane n fun l => { l with state := .threading, residual := none, residualMs := 0 } with ht
  have kept := keepsAllBut_checkInput t n
  have lane : (t.checkInput n).lane n = { s.lane n with state := .threading, residual := none, residualMs := 0 } := by
    rw [State.lane_checkInput, ht, State.lane_modLane_same]
  have zones : (t.checkInput n).zonesInBand n = s.zonesInBand n :=
    State.zonesInBand_congr (by rw [lane]) (fun _ => by rw [lane]; rfl) (kept.1 .profiles (by simp))
      (kept.1 .readings (by simp)) (kept.1 .cal (by simp))
  rw [State.resume, if_pos h, State.lane_settle_same, zones, lane,
    Lane.judged_of_threading (l := { s.lane n with state := .threading, residual := none, residualMs := 0 }) a.formed
      a.leading rfl]

theorem resume_passed {s : State} {n : LaneId} (h : (s.lane n).state ≠ .suspended) : s.resume n = s := if_neg h

/-- What the return of every suspended lane does (R59). -/
structure Resumes (s t : State) : Prop where
  passed : ∀ n, (s.lane n).state ≠ .suspended → t.lane n = s.lane n
  returned : ∀ n, (s.lane n).state = .suspended → Agrees s n → resumed s t n
  input : ∀ n, t.breakInput n = { s.breakInput n with
    timer := if (s.lane n).state = .suspended ∧ s.inputActive n = true ∧ (s.breakInput n).timer = none then
      some s.cal.values.confirmMs else (s.breakInput n).timer }
  keeps : KeepsAllBut (.breaks :: everyLane) s t

/-- Beside lane `n` another lane returns. -/
structure ReturnsAside (n : LaneId) (s t : State) : Prop where
  lane : t.lane n = s.lane n
  input : t.breakInput n = s.breakInput n
  profiles : t.profiles = s.profiles
  readings : t.readings = s.readings
  cal : t.cal = s.cal

theorem returnsAside_resume {n m : LaneId} (h : m ≠ n) (s : State) : ReturnsAside n s (s.resume m) := by
  have kept := keepsAllBut_resume s m
  exact ⟨kept.1 (.lane n) (by simp [h.symm]), breakInput_resume_other s h.symm, kept.1 .profiles (by simp),
    kept.1 .readings (by simp), kept.1 .cal (by simp)⟩

theorem resumes_resumeAll (s : State) : Resumes s s.resumeAll := by
  have walk (n : LaneId) := walk_apart (R := ReturnsAside n) (op := State.resume) (n := n)
    (fun s => ⟨rfl, rfl, rfl, rfl, rfl⟩)
    (fun h h' => ⟨h'.lane.trans h.lane, h'.input.trans h.input, h'.profiles.trans h.profiles,
      h'.readings.trans h.readings, h'.cal.trans h.cal⟩)
    (fun t m hm => returnsAside_resume hm t) LaneId.nodup_all (LaneId.mem_all n) s
  refine ⟨fun n hn => ?_, fun n hn a => ?_, fun n => ?_, ?_⟩
  · obtain ⟨u, before, after⟩ := walk n
    rw [resume_passed (by rwa [before.lane])] at after
    exact after.lane.trans before.lane
  · obtain ⟨u, before, after⟩ := walk n
    have zones : u.zonesInBand n = s.zonesInBand n := State.zonesInBand_congr (by rw [before.lane])
      (fun _ => by rw [before.lane]) before.profiles before.readings before.cal
    have lane := lane_resume (s := u) (n := n) (by rwa [before.lane])
      ⟨by rw [before.lane, zones]; exact a.formed, by rw [before.lane, zones]; exact a.leading⟩
    rw [before.lane, zones] at lane
    exact after.lane.trans lane
  · obtain ⟨u, before, after⟩ := walk n
    have active : u.inputActive n = s.inputActive n := by
      unfold State.inputActive
      rw [before.input, before.cal]
    have input := breakInput_resume_same u n
    rw [before.lane, before.input, active, before.cal] at input
    exact after.input.trans input
  · refine foldl_keeps (P := KeepsAllBut (.breaks :: everyLane) s) (fun t n h => h.trans ?_) LaneId.all (.refl _ s)
    exact (keepsAllBut_resume t n).mono (by cases n <;> decide)

/-! ## A window's figures (R84, R85, R87) -/

/-- A flow window joined to the history, with an accumulator and a zero-window run, and a lost flow latched. -/
structure WindowJudged (s u : State) (acc run : Nat) (lost : Bool) : Prop where
  exhaust : u.exhaust = { s.exhaust with
    history := ⟨s.exhaust.history.older, s.exhaust.history.newer, s.exhaust.history.newest, s.exhaust.count⟩
    qMeas := (s.exhaust.history.older + s.exhaust.history.newer + s.exhaust.history.newest + s.exhaust.count) * 30 /
      s.cal.values.pulsesPerM3
    count := 0
    windowMs := 0
    accumulator := acc
    zeroRun := run }
  attention : u.attention = { s.attention with
    latched := if lost = true then s.attention.latched ||| 4 else s.attention.latched }
  horn : u.horn = if lost = true then ⟨none, true⟩ else s.horn
  keeps : KeepsAllBut [.exhaust, .attention, .horn] s u

/-- The flow lost at a window: the fourth of a run without a pulse (R85). -/
def State.flowLostNow (s : State) : Bool := decide (s.exhaust.count = 0 ∧ 3 ≤ s.exhaust.zeroRun)

/-- The zero-window run after a window (R85). -/
def State.nextRun (s : State) : Nat :=
  if s.flowLostNow = true ∨ 0 < s.exhaust.count then 0 else s.exhaust.zeroRun + 1

theorem judgeRun_eq (s : State) : judgeRun s.exhaust.zeroRun s.exhaust.count = (s.nextRun, s.flowLostNow) := by
  unfold judgeRun State.nextRun State.flowLostNow
  split
  next h => simp [h, Nat.ne_of_gt h]
  next h =>
    have none : s.exhaust.count = 0 := Nat.eq_zero_of_not_pos h
    split <;> simp_all

/-- FLOW_LOST latched sounds the horn without end (R120). -/
theorem latch_flowLost (s : State) : s.latch .flowLost = { s with
    attention := { s.attention with latched := s.attention.latched ||| 4 }, horn := ⟨none, true⟩ } := by
  have on : (s.attention.latch .flowLost).isLatched .flowLost = true := by simp [Attention.isLatched_latch]
  unfold State.latch State.tellHorn
  rw [if_pos (.inr rfl)]
  dsimp only
  rw [on, Bool.or_true]
  rfl

/-- A window judged by its count (R85). -/
theorem windowJudged_judgeFlow {s u : State} (h : WindowJudged s u u.exhaust.accumulator s.exhaust.zeroRun false) :
    (u.judgeFlow s.exhaust.count).2 = s.flowLostNow ∧ 
      WindowJudged s (u.judgeFlow s.exhaust.count).1 u.exhaust.accumulator s.nextRun s.flowLostNow := by
  have run : judgeRun u.exhaust.zeroRun s.exhaust.count = (s.nextRun, s.flowLostNow) := by
    rw [h.exhaust]
    exact judgeRun_eq s
  have judged : u.judgeFlow s.exhaust.count = (if s.flowLostNow then
      ({ u with exhaust := { u.exhaust with zeroRun := s.nextRun } } : State).latch .flowLost
      else { u with exhaust := { u.exhaust with zeroRun := s.nextRun } }, s.flowLostNow) := by
    unfold State.judgeFlow
    rw [run]
  have exhaust : { u.exhaust with zeroRun := s.nextRun } = { s.exhaust with
      history := ⟨s.exhaust.history.older, s.exhaust.history.newer, s.exhaust.history.newest, s.exhaust.count⟩
      qMeas := (s.exhaust.history.older + s.exhaust.history.newer + s.exhaust.history.newest + s.exhaust.count) * 30 /
        s.cal.values.pulsesPerM3
      count := 0
      windowMs := 0
      accumulator := u.exhaust.accumulator
      zeroRun := s.nextRun } := by
    conv_lhs => rw [h.exhaust]
  rw [judged]
  refine ⟨rfl, ?_⟩
  cases s.flowLostNow with
  | false =>
    exact ⟨exhaust, h.attention, h.horn,
      h.keeps.trans ⟨fun p hp => by cases p <;> first | rfl | simp at hp, rfl⟩⟩
  | true =>
    rw [if_pos rfl, latch_flowLost]
    refine ⟨exhaust, ?_, rfl, h.keeps.trans ⟨fun p hp => by cases p <;> first | rfl | simp at hp, rfl⟩⟩
    show { u.attention with latched := u.attention.latched ||| 4 } = _
    rw [h.attention]
    rfl

theorem windowJudged_formFlow (s : State) : WindowJudged s s.formFlow s.exhaust.accumulator s.exhaust.zeroRun false :=
  ⟨rfl, rfl, rfl, ⟨fun p hp => by cases p <;> first | rfl | simp at hp, rfl⟩⟩

theorem WindowJudged.clearAccumulator {s u : State} {acc run : Nat} {lost : Bool} (h : WindowJudged s u acc run lost) :
    WindowJudged s u.clearAccumulator 0 run lost where
  exhaust := by
    show { u.exhaust with accumulator := 0 } = _
    rw [h.exhaust]
  attention := h.attention
  horn := h.horn
  keeps := h.keeps.trans ⟨fun p hp => by cases p <;> first | rfl | simp at hp, rfl⟩

/-- The purge accumulator after a window (R87). -/
def State.nextAccumulator (s : State) : Nat :=
  if s.flowLostNow = true ∨ 10000 < s.dryer.purgeMs ∧
      (s.exhaust.history.older + s.exhaust.history.newer + s.exhaust.history.newest + s.exhaust.count) * 30 /
        s.cal.values.pulsesPerM3 < s.cal.values.qPurge * 3 / 4 then 0
  else s.exhaust.accumulator + s.exhaust.count

theorem windowJudged_accumulate (s : State) :
    WindowJudged s (s.formFlow.accumulate s.exhaust.count) (s.formFlow.accumulate s.exhaust.count).exhaust.accumulator
      s.exhaust.zeroRun false :=
  ⟨rfl, rfl, rfl, ⟨fun p hp => by cases p <;> first | rfl | simp at hp, rfl⟩⟩

/-- A window in HEATING: judged, and a SAFE_HOLD request where the flow is lost (R85). -/
theorem flowWindow_heating {s : State} (hd : s.dryer.state = .heating) :
    ∃ u, WindowJudged s u s.exhaust.accumulator s.nextRun s.flowLostNow ∧
      s.flowWindow = if s.flowLostNow = true then u.enterSafeHold .flowLost else u := by
  obtain ⟨lost, judged⟩ := windowJudged_judgeFlow (windowJudged_formFlow s)
  have dryer : (s.formFlow.judgeFlow s.exhaust.count).1.dryer = s.dryer := judged.keeps.1 .dryer (by simp)
  refine ⟨_, judged, ?_⟩
  unfold State.flowWindow State.flowInHeating
  rw [hd]
  dsimp only
  rw [lost]
  unfold State.requestSafeHold
  rw [if_pos (show _ ∨ (s.formFlow.judgeFlow s.exhaust.count).1.dryer.state = .heating from .inr (by rw [dryer, hd]))]

/-- A window in PURGE: the accumulator, the judgement, and the end of the purge (R87, R88). -/
theorem flowWindow_purge {s : State} (hd : s.dryer.state = .purge) :
    ∃ u, WindowJudged s u s.nextAccumulator s.nextRun s.flowLostNow ∧
      s.flowWindow = if s.purgeTarget ≤ s.nextAccumulator then u.enterHeating else u := by
  obtain ⟨lost, judged⟩ := windowJudged_judgeFlow (windowJudged_accumulate s)
  have formed : (s.formFlow.accumulate s.exhaust.count).exhaust.accumulator = if 10000 < s.dryer.purgeMs ∧
      (s.exhaust.history.older + s.exhaust.history.newer + s.exhaust.history.newest + s.exhaust.count) * 30 /
        s.cal.values.pulsesPerM3 < s.cal.values.qPurge * 3 / 4 then 0 else s.exhaust.accumulator + s.exhaust.count := rfl
  set r := (s.formFlow.accumulate s.exhaust.count).judgeFlow s.exhaust.count with hr
  have accumulated : WindowJudged s (if r.2 then r.1.clearAccumulator else r.1) s.nextAccumulator s.nextRun
      s.flowLostNow := by
    rw [lost]
    unfold State.nextAccumulator
    cases h : s.flowLostNow with
    | false =>
      rw [h, formed] at judged
      simpa using judged
    | true =>
      rw [h] at judged
      simpa using judged.clearAccumulator
  refine ⟨_, accumulated, ?_⟩
  have target : (if r.2 then r.1.clearAccumulator else r.1).purgeTarget = s.purgeTarget := by
    have cal : (if r.2 then r.1.clearAccumulator else r.1).cal = s.cal := accumulated.keeps.1 .cal (by simp)
    unfold State.purgeTarget
    rw [cal]
  unfold State.flowWindow State.flowInPurge
  rw [hd]
  dsimp only
  rw [← hr, target, accumulated.exhaust]

theorem flowWindow_other {s : State} (hp : s.dryer.state ≠ .purge) (hh : s.dryer.state ≠ .heating) :
    s.flowWindow = s.formFlow := by
  unfold State.flowWindow
  split
  · contradiction
  · contradiction
  · rfl

/-! ## What follows a window -/

theorem latch_safeHold (s : State) : s.latch .safeHold = { s with
    attention := { s.attention with latched := s.attention.latched ||| 2 }, horn := ⟨none, true⟩ } := by
  have on : (s.attention.latch .safeHold).isLatched .safeHold = true := by simp [Attention.isLatched_latch]
  unfold State.latch State.tellHorn
  rw [if_pos (.inl rfl)]
  dsimp only
  rw [on, Bool.true_or]
  rfl

/-- What SAFE_HOLD entered on a lost flow leaves (R94). -/
structure HoldsForFlow (s t : State) : Prop where
  dryer : t.dryer = { s.dryer with state := .safeHold, lastCause := some .flowLost }
  exhaust : t.exhaust = { s.exhaust with zeroRun := 0 }
  attention : t.attention = { s.attention with latched := s.attention.latched ||| 2 }
  horn : t.horn = ⟨none, true⟩
  stopped : ∀ n, (s.lane n).state.moving = true → Stopped s t n .suspended
  arbiter : t.arbiter = { s.arbiter with queue := s.arbiter.queue.filter fun n => (s.lane n).state.moving = false }
  keeps : KeepsAllBut (everyLane ++ [.arbiter, .dryer, .exhaust, .attention, .horn]) s t

theorem holdsForFlow (s : State) : HoldsForFlow s (s.enterSafeHold .flowLost) := by
  unfold State.enterSafeHold
  rw [latch_safeHold]
  dsimp only
  set u : State := { s.enterDryer .safeHold with
    dryer := { (s.enterDryer .safeHold).dryer with lastCause := some .flowLost }
    attention := { s.attention with latched := s.attention.latched ||| 2 }
    horn := ⟨none, true⟩ } with hu
  have begun : KeepsAllBut [.dryer, .exhaust, .attention, .horn] s u :=
    ⟨fun p hp => by cases p <;> first | rfl | simp at hp, rfl⟩
  have dryer : u.dryer = { s.dryer with state := .safeHold, lastCause := some .flowLost } := rfl
  have exhaust : u.exhaust = { s.exhaust with zeroRun := 0 } := rfl
  have attention : u.attention = { s.attention with latched := s.attention.latched ||| 2 } := rfl
  have horn : u.horn = ⟨none, true⟩ := rfl
  show HoldsForFlow s (u.suspendWhere LaneState.moving)
  clear_value u
  obtain ⟨stopped, -, arbiter, after, keeps⟩ := suspendsAfter begun LaneState.moving
  generalize u.suspendWhere LaneState.moving = t at *
  exact ⟨(after.1 .dryer (by decide)).trans dryer, (after.1 .exhaust (by decide)).trans exhaust,
    (after.1 .attention (by decide)).trans attention, (after.1 .horn (by decide)).trans horn, stopped, arbiter, keeps⟩

/-- What HEATING entered at the end of a purge leaves (R59, R88). -/
structure EntersHeating (s t : State) : Prop where
  dryer : t.dryer = { s.dryer with state := .heating }
  exhaust : t.exhaust = { s.exhaust with zeroRun := 0 }
  lanes : Resumes (s.enterDryer .heating) t

theorem entersHeating (s : State) : EntersHeating s s.enterHeating := by
  have lanes : Resumes (s.enterDryer .heating) s.enterHeating := resumes_resumeAll _
  exact ⟨lanes.keeps.1 .dryer (by decide), lanes.keeps.1 .exhaust (by decide), lanes⟩

end Sys2Proof.Machine
end

section
/-! PROOF. FLOW_PULSE and FLOW_WINDOW in every dryer state (O46). -/

namespace Sys2Proof.Machine

/-- What stands after a window whatever the dryer does about it (R84). -/
structure Windowed (s t : State) : Prop where
  history : t.exhaust.history =
    ⟨s.exhaust.history.older, s.exhaust.history.newer, s.exhaust.history.newest, s.exhaust.count⟩
  qMeas : t.exhaust.qMeas =
    (s.exhaust.history.older + s.exhaust.history.newer + s.exhaust.history.newest + s.exhaust.count) * 30 /
      s.cal.values.pulsesPerM3
  count : t.exhaust.count = 0
  windowMs : t.exhaust.windowMs = 0
  sinceUs : t.exhaust.sinceUs = s.exhaust.sinceUs
  attention : t.attention = { s.attention with latched := t.attention.latched }
  formed : FormedFrom s t.reform
  keeps : KeepsAllBut (everyLane ++ [.arbiter, .exhaust, .dryer, .breaks, .attention, .horn, .load, .lines]) s t

section
variable {s u t : State} {acc run : Nat} {lost : Bool} (h : WindowJudged s u acc run lost)
include h

theorem WindowJudged.windowed (zeroRun : t.exhaust = { u.exhaust with zeroRun := t.exhaust.zeroRun })
    (attention : t.attention = { u.attention with latched := t.attention.latched })
    (kept : KeepsAllBut (everyLane ++ [.arbiter, .exhaust, .dryer, .breaks, .attention, .horn]) u t) : Windowed s t := by
  have exhaust := h.exhaust
  have told := h.attention
  have all := (h.keeps.mono (large := everyLane ++ [.arbiter, .exhaust, .dryer, .breaks, .attention, .horn])
    (by decide)).trans kept
  exact
    { history := by rw [zeroRun, exhaust]
      qMeas := by rw [zeroRun, exhaust]
      count := by rw [zeroRun, exhaust]
      windowMs := by rw [zeroRun, exhaust]
      sinceUs := by rw [zeroRun, exhaust]
      attention := by rw [told] at attention; exact attention
      formed := formedFrom_reform (all.1 .load (by decide))
      keeps := all.mono (by decide) }

theorem WindowJudged.lane (n : LaneId) : u.lane n = s.lane n := h.keeps.1 (.lane n) (by simp)
theorem WindowJudged.dryer : u.dryer = s.dryer := h.keeps.1 .dryer (by simp)
theorem WindowJudged.arbiter : u.arbiter = s.arbiter := h.keeps.1 .arbiter (by simp)
theorem WindowJudged.breaks : u.breaks = s.breaks := h.keeps.1 .breaks (by simp)

theorem WindowJudged.windowed_self : Windowed s u := h.windowed rfl rfl (.refl _ u)

theorem WindowJudged.windowed_hold (hold : HoldsForFlow u t) : Windowed s t :=
  h.windowed (by rw [hold.exhaust]) (by rw [hold.attention]) (hold.keeps.mono (by decide))

theorem WindowJudged.windowed_heating (heat : EntersHeating u t) : Windowed s t := by
  have entered : KeepsAllBut [.dryer, .exhaust] u (u.enterDryer .heating) :=
    ⟨fun p hp => by cases p <;> first | rfl | simp at hp, rfl⟩
  have attention : t.attention = u.attention := heat.lanes.keeps.1 .attention (by decide)
  exact h.windowed (by rw [heat.exhaust]) (by rw [attention])
    ((entered.mono (by decide)).trans (heat.lanes.keeps.mono (by decide)))

/-- The lanes and the break inputs of a part that begins to heat (R59, R114). -/
theorem WindowJudged.heated (heat : EntersHeating u t) :
    (∀ n, (s.lane n).state ≠ .suspended → t.lane n = s.lane n) ∧
    (InBandLaw s → ∀ n, (s.lane n).state = .suspended → resumed s t n) ∧
    ∀ n, (t.breakInput n).level = (s.breakInput n).level ∧ (t.breakInput n).timer =
      if (s.lane n).state = .suspended ∧ s.inputActive n = true ∧ (s.breakInput n).timer = none then
        some s.cal.values.confirmMs else (s.breakInput n).timer := by
  have lane : ∀ n, (u.enterDryer .heating).lane n = s.lane n := h.lane
  have cal : (u.enterDryer .heating).cal = s.cal := h.keeps.1 .cal (by simp)
  have input (n : LaneId) : (u.enterDryer .heating).breakInput n = s.breakInput n :=
    congrArg (PerLane.get · n) h.breaks
  have zones (n : LaneId) : (u.enterDryer .heating).zonesInBand n = s.zonesInBand n :=
    State.zonesInBand_congr (by rw [lane]) (fun _ => by rw [lane]) (h.keeps.1 .profiles (by simp))
      (h.keeps.1 .readings (by simp)) cal
  obtain ⟨passed, returned, timer, -⟩ := heat.lanes
  refine ⟨fun n hn => ?_, fun l n hn => ?_, fun n => ?_⟩
  · rw [passed n (by rwa [lane]), lane]
  · have agrees := l.agrees n
    have back := returned n (by rwa [lane])
      ⟨by rw [lane, zones]; exact agrees.formed, by rw [lane, zones]; exact agrees.leading⟩
    unfold resumed at back ⊢
    rwa [lane, zones] at back
  · have active : (u.enterDryer .heating).inputActive n = s.inputActive n := by
      unfold State.inputActive
      rw [input, cal]
    rw [timer, input, lane, active, cal]
    exact ⟨rfl, rfl⟩

end

theorem nextRun_of_kept {s : State} (h : s.flowLostNow = false) :
    s.nextRun = if 0 < s.exhaust.count then 0 else s.exhaust.zeroRun + 1 := by
  simp [State.nextRun, h]

/-- Settles O46: a window is judged, and the dryer acts on it in its own state. -/
theorem flowWindows : Obligations.FlowWindows := by
  intro s hp
  refine ⟨fun gap => ?_, ?_⟩
  · rw [exec_powered (i := .flowPulse gap) hp]
    by_cases h : 7 ≤ s.exhaust.sinceUs + gap
    · rw [if_pos h, countEdge_counted h]
    · rw [if_neg h, countEdge_close (Nat.lt_of_not_le h)]
  intro q hq lost hlost acc hacc
  obtain rfl : lost = s.flowLostNow := hlost
  obtain rfl : acc = s.nextAccumulator := by rw [hacc, hq]; rfl
  subst hq
  have window : exec .flowWindow s = .next s.flowWindow.reform := (exec_powered (i := .flowWindow) hp :)
  by_cases hd : s.dryer.state = .heating
  · have notPurge : s.dryer.state ≠ .purge := by rw [hd]; decide
    obtain ⟨u, judged, e⟩ := flowWindow_heating hd
    rw [e] at window
    by_cases hl : s.flowLostNow = true
    · rw [if_pos hl] at window
      have hold := holdsForFlow u
      have w := judged.windowed_hold hold
      generalize u.enterSafeHold .flowLost = t at *
      refine ⟨_, window, w.history, w.qMeas, w.count, w.windowMs, w.sinceUs, fun _ => ?_, fun _ h => absurd hd h,
        fun _ => ⟨fun _ => ⟨?_, ?_, ?_, fun n hn => ?_⟩, fun h => absurd hl (by rw [h]; decide)⟩, fun h => absurd h notPurge,
        fun _ => ?_, w.attention, ?_, ?_, w.formed, keepsAllBut_reformed w.keeps (by decide) (by decide)⟩
      · show t.exhaust.accumulator = _
        rw [hold.exhaust, judged.exhaust]
      · exact hold.dryer.trans (by rw [judged.dryer])
      · refine (congrArg Attention.latched hold.attention).trans ?_
        rw [judged.attention, if_pos hl]
        exact BitVec.or_assoc ..
      · exact (congrArg Exhaust.zeroRun hold.exhaust).trans rfl
      · exact (hold.stopped n (by rwa [judged.lane])).aside (.of_keeps judged.keeps) (.of_keeps (keepsAllBut_reform t))
      · exact (hold.keeps.1 .breaks (by decide)).trans judged.breaks
      · rw [if_pos ⟨hl, .inr hd⟩]
        exact hold.horn
      · rw [if_pos ⟨hd, hl⟩]
        refine hold.arbiter.trans ?_
        simp only [judged.arbiter, judged.lane]
    · have kept : s.flowLostNow = false := by simpa using hl
      rw [if_neg hl] at window
      have w := judged.windowed_self
      refine ⟨_, window, w.history, w.qMeas, w.count, w.windowMs, w.sinceUs, fun _ => ?_, fun _ h => absurd hd h,
        fun _ => ⟨fun h => absurd h hl, fun _ => ⟨judged.dryer, ?_, judged.lane, ?_⟩⟩, fun h => absurd h notPurge,
        fun _ => judged.breaks, w.attention, ?_, ?_, w.formed, keepsAllBut_reformed w.keeps (by decide) (by decide)⟩
      · exact (congrArg Exhaust.accumulator judged.exhaust :)
      · refine judged.attention.trans ?_
        rw [if_neg hl]
      · exact (congrArg Exhaust.zeroRun judged.exhaust).trans (nextRun_of_kept kept)
      · rw [if_neg fun h => hl h.1]
        exact judged.horn.trans (if_neg hl)
      · rw [if_neg fun h => hl h.2]
        exact judged.arbiter
  · by_cases hpurge : s.dryer.state = .purge
    · obtain ⟨u, judged, e⟩ := flowWindow_purge hpurge
      have horn : u.horn = if s.flowLostNow = true ∧ (s.dryer.state = .purge ∨ s.dryer.state = .heating) then ⟨none, true⟩
          else s.horn := by
        rw [judged.horn]
        simp [hpurge]
      rw [e] at window
      by_cases ht : s.purgeTarget ≤ s.nextAccumulator
      · rw [if_pos ht] at window
        have heat := entersHeating u
        have w := judged.windowed_heating heat
        generalize u.enterHeating = t at *
        refine ⟨_, window, w.history, w.qMeas, w.count, w.windowMs, w.sinceUs, fun h => absurd hpurge h,
          fun h => absurd hpurge h, fun h => absurd h hd,
          fun _ => ⟨?_, ?_, fun _ => ⟨?_, ?_, (judged.heated heat :)⟩, fun h => absurd ht (Nat.not_le.2 h)⟩,
          fun h => absurd hpurge h, w.attention, ?_, ?_, w.formed, keepsAllBut_reformed w.keeps (by decide) (by decide)⟩
        · show t.exhaust.accumulator = _
          rw [heat.exhaust, judged.exhaust]
        · refine (congrArg Attention.latched (heat.lanes.keeps.1 .attention (by decide))).trans ?_
          exact (congrArg Attention.latched judged.attention :)
        · exact heat.dryer.trans (by rw [judged.dryer])
        · exact (congrArg Exhaust.zeroRun heat.exhaust).trans rfl
        · exact (heat.lanes.keeps.1 .horn (by decide)).trans horn
        · rw [if_neg fun h => hd h.1]
          exact (heat.lanes.keeps.1 .arbiter (by decide)).trans judged.arbiter
      · rw [if_neg ht] at window
        have w := judged.windowed_self
        refine ⟨_, window, w.history, w.qMeas, w.count, w.windowMs, w.sinceUs, fun h => absurd hpurge h,
          fun h => absurd hpurge h, fun h => absurd h hd,
          fun _ => ⟨?_, ?_, fun h => absurd h ht, fun _ => ⟨judged.dryer, judged.breaks, judged.lane, ?_⟩⟩,
          fun h => absurd hpurge h, w.attention, horn, ?_, w.formed, keepsAllBut_reformed w.keeps (by decide) (by decide)⟩
        · exact (congrArg Exhaust.accumulator judged.exhaust :)
        · exact (congrArg Attention.latched judged.attention :)
        · exact (congrArg Exhaust.zeroRun judged.exhaust :)
        · rw [if_neg fun h => hd h.1]
          exact judged.arbiter
    · rw [flowWindow_other hpurge hd] at window
      have judged := windowJudged_formFlow s
      have w := judged.windowed_self
      refine ⟨_, window, w.history, w.qMeas, w.count, w.windowMs, w.sinceUs, fun _ => rfl,
        fun _ _ => ⟨rfl, rfl, rfl, fun _ => rfl⟩, fun h => absurd h hd, fun h => absurd h hpurge, fun _ => rfl,
        w.attention, ?_, ?_, w.formed, keepsAllBut_reformed w.keeps (by decide) (by decide)⟩
      · rw [if_neg fun h => h.2.elim hpurge hd]
        rfl
      · rw [if_neg fun h => hd h.1]
        rfl

end Sys2Proof.Machine
end

section
/-! PROOF. LSTAT (R63, R159): the bytes of a lane, and its hold set bit by bit (R66, R67, R68). -/

namespace Sys2Proof.Machine

/-! ## Flags and positions -/

theorem testBit_bitsValue (bs : List Bool) (i : Nat) : (bitsValue bs).testBit i = bs.getD i false := by
  induction bs generalizing i with
  | nil => simp [bitsValue]
  | cons b bs ih =>
    cases i with
    | zero => cases b <;> simp [bitsValue, Nat.testBit_zero]
    | succ i =>
      have half : bitsValue (b :: bs) / 2 = bitsValue bs := by
        cases b <;> simp only [bitsValue, Bool.false_eq_true, if_true, if_false] <;> omega
      rw [Nat.testBit_succ, half, ih]
      rfl

/-- A bit of the byte of a list of flags is its flag (R159). -/
theorem getLsbD_byteOf_bitsValue (bs : List Bool) {i : Nat} (hi : i < 8) :
    (byteOf (bitsValue bs)).getLsbD i = bs.getD i false := by
  rw [byteOf, BitVec.getLsbD_ofNat, testBit_bitsValue]
  simp [hi]

theorem queuePosition_eq (n : LaneId) (q : List LaneId) :
    queuePosition n q = if n ∈ q then q.idxOf n + 1 else 0 := by
  induction q with
  | nil => rfl
  | cons m ms ih =>
    unfold queuePosition
    by_cases e : m = n
    · subst e
      simp
    · rw [if_neg e, ih, List.idxOf_cons_ne _ e]
      by_cases hn : n ∈ ms <;> simp [hn, Ne.symm e]

/-! ## What a test of a channel says -/

theorem Reading.passes_iff {r : Reading} {test : Int → Bool} :
    r.passes test = true ↔ r.fresh = true ∧ ∃ v, r.value = some v ∧ test v = true := by
  unfold Reading.passes
  cases r.value <;> simp

theorem Lane.isLeading_iff {l : Lane} : l.isLeading = true ↔ l.lead.map (·.status) = some .leading := by
  unfold Lane.isLeading
  rcases l.lead with _ | ⟨band, _ | _⟩ <;> simp

section
variable {s : State} {n : LaneId}

theorem notReady_iff : s.notReady n = true ↔ (s.lane n).state = .threading ∨
    ((s.lane n).state = .ready ∨ (s.lane n).state = .running) ∧
      (s.lane n).lead.map (·.status) ≠ some .leading ∧ (s.lane n).inBand ≠ some true := by
  rw [Ne, ← Lane.isLeading_iff]
  unfold State.notReady
  simp [and_assoc]

theorem underdried_eq_false : s.underdried n = false ↔ (s.reading (.webExit n)).fresh = true ∧
    ∃ v, (s.reading (.webExit n)).value = some v ∧ ((s.runningBand n).webExitMin : Int) ≤ v := by
  rw [State.underdried, Bool.not_eq_false', Reading.passes_iff]
  simp only [decide_eq_true_eq]

theorem hotWeb_eq_false : s.hotWeb n = false ↔ (s.reading (.chillExit n)).fresh = true ∧
    ∃ v, (s.reading (.chillExit n)).value = some v ∧ v ≤ ((s.runningBand n).chillExitMax : Int) := by
  rw [State.hotWeb, Bool.not_eq_false', Reading.passes_iff]
  simp only [decide_eq_true_eq]

theorem warmChillWater_eq_false : s.warmChillWater = false ↔ (s.reading .chillWater).fresh = true ∧
    ∃ v, (s.reading .chillWater).value = some v ∧ v ≤ (s.cal.values.chillWaterMax : Int) := by
  rw [State.warmChillWater, Bool.not_eq_false', Reading.passes_iff]
  simp only [decide_eq_true_eq]

theorem anyStale_iff : s.anyStale n = true ↔ (∃ z, (s.reading (.zone n z)).fresh = false) ∨
    (s.reading (.webExit n)).fresh = false ∨ (s.reading (.chillExit n)).fresh = false := by
  have zones : (∃ z, (s.reading (.zone n z)).fresh = false) ↔ (s.reading (.zone n .z1)).fresh = false ∨
      (s.reading (.zone n .z2)).fresh = false ∨ (s.reading (.zone n .z3)).fresh = false := by
    refine ⟨fun ⟨z, h⟩ => by cases z <;> simp [h], ?_⟩
    rintro (h | h | h)
    exacts [⟨_, h⟩, ⟨_, h⟩, ⟨_, h⟩]
  rw [zones]
  simp [State.anyStale]
  tauto

theorem holds_queued (h : n ∈ s.arbiter.queue) : s.holds n =
    [s.notReady n, (s.lane n).isLeading, s.underdried n, s.hotWeb n, s.anyStale n, s.warmChillWater,
      (s.lane n).overspeed] := if_pos (queued_iff.2 h)

theorem holds_unqueued (h : n ∉ s.arbiter.queue) : s.holds n = [false, false, false, false, false, false, false] :=
  if_neg (mt queued_iff.1 h)

end

/-! ## The request -/

theorem takeLstat_one (s : State) (n : LaneId) : takeLstat (laneBody n) s = (s, .done (s.laneBytes n)) := by
  simp [takeLstat, laneBody]

theorem takeLstat_lane (s : State) {k : Byte} (hk : k = 0 ∨ 4 < k.toNat) : takeLstat [k] s = (s, .refused 3 1) := by
  have none : LaneId.ofNumber k.toNat = none := LaneId.ofNumber_eq_none (hk.imp_left fun e => by rw [e]; rfl)
  unfold takeLstat
  dsimp only
  rw [none]
  rfl

theorem takeLstat_length {body : List Byte} (hb : body.length ≠ 1) (s : State) : takeLstat body s = (s, .badLength) := by
  unfold takeLstat
  split
  · exact absurd rfl hb
  · rfl

theorem heatBandOrZero_eq (s : State) (n : LaneId) :
    s.heatBandOrZero n = ((s.profileOf n).map fun p => (s.lane n).heatBand p.bands).getD 0 := by
  unfold State.heatBandOrZero
  cases s.profileOf n <;> rfl

theorem secondsUp_eq (ms : Nat) : secondsUp ms = (ms + 999) / 1000 := rfl

theorem laneBytes_grace (s : State) (n : LaneId) : ((s.laneBytes n).drop 10).take 4 =
    [if (s.lane n).overspeed then 1 else 0, byteOf (((s.lane n).graceMs + 999) / 1000)] ++
      be2 (s.lane n).stamp.toNat := by
  rw [← secondsUp_eq]
  rfl

theorem laneBytes_residual (s : State) (n : LaneId) : ((s.laneBytes n).drop 18).take 5 =
    [if (s.lane n).residual.isSome then 1 else 0] ++ be2 ((s.lane n).residual.getD 0) ++
      [byteOf (((s.lane n).residualMs + 999) / 1000), byteOf (s.lane n).hotWeb] := by
  rw [← secondsUp_eq]
  rfl

theorem laneBytes_band (s : State) (n : LaneId) : ((s.laneBytes n).drop 23).take 4 =
    [byteOf (((s.profileOf n).map fun p => (s.lane n).heatBand p.bands).getD 0)] ++ be2 (s.laneLoad n) ++
      [byteOf (if n ∈ s.arbiter.queue then s.arbiter.queue.idxOf n + 1 else 0)] := by
  rw [← heatBandOrZero_eq, ← queuePosition_eq]
  rfl

theorem laneBytes_holds (s : State) (n : LaneId) : (s.laneBytes n).drop 27 = [byteOf (bitsValue (s.holds n))] := rfl

theorem laneBytes_length (s : State) (n : LaneId) : (s.laneBytes n).length = 28 := rfl

theorem laneBytes_head (s : State) (n : LaneId) :
    (s.laneBytes n).take 2 = [byteOf n.number, (s.lane n).state.code] := rfl

theorem laneBytes_speeds (s : State) (n : LaneId) : ((s.laneBytes n).drop 2).take 8 =
    be2 ((s.lane n).key.getD 0) ++ be2 (s.lane n).g ++ be2 ((s.lane n).target.getD 0) ++ be2 (s.lane n).measured := rfl

theorem laneBytes_lead (s : State) (n : LaneId) : ((s.laneBytes n).drop 14).take 4 =
    [byteOf (((s.lane n).lead.map (·.band)).getD 0), Lead.statusCode (s.lane n).lead] ++
      be2 ((s.lane n).leadMs / 1000) := rfl

/-- The last byte of a queued lane's answer, bit by bit (R66). -/
theorem laneBytes_bit {s : State} {n : LaneId} (hq : n ∈ s.arbiter.queue) {b : Byte}
    (hb : (s.laneBytes n).getD 27 0 = b) {i : Nat} (hi : i < 8) : b.getLsbD i =
      [s.notReady n, (s.lane n).isLeading, s.underdried n, s.hotWeb n, s.anyStale n, s.warmChillWater,
        (s.lane n).overspeed].getD i false := by
  rw [← hb, ← holds_queued hq, ← getLsbD_byteOf_bitsValue _ hi]
  rfl

theorem laneBytes_taking (s : State) (n : LaneId) : s.taking.laneBytes n = s.laneBytes n := rfl

theorem exec_lstat {s : State} (h : ListeningAt s) (n : LaneId) :
    exec (.lstat (laneBody n)) s = .next (onlyAnswered s 0x0D (.done (s.laneBytes n))) := by
  have answer := h.exec_onlyAnswered (c := .lstat (laneBody n)) rfl rfl (by simp [laneBody]) (takeLstat_one s.taking n)
  rw [laneBytes_taking] at answer
  exact answer

/-- Settles O25: the answer is the lane's bytes, the last of them its hold set. -/
theorem lstatAnswersLane : Obligations.LstatAnswersLane := by
  refine ⟨fun s n h => ?_, fun s k h hk => h.exec_onlyAnswered rfl rfl (by simp) (takeLstat_lane _ hk),
    fun s body h hl hb => h.exec_onlyAnswered rfl rfl hl (takeLstat_length hb _)⟩
  refine ⟨s.laneBytes n, exec_lstat h n, ?_⟩
  refine ⟨laneBytes_length s n, laneBytes_head s n, laneBytes_speeds s n,
    laneBytes_grace s n, laneBytes_lead s n, laneBytes_residual s n, laneBytes_band s n, fun hq => ?_,
    fun hq band hband => ?_⟩
  · rw [laneBytes_holds, holds_unqueued hq]
    rfl
  · subst hband
    generalize hb : (s.laneBytes n).getD 27 0 = b
    have bit {i : Nat} (hi : i < 8) := laneBytes_bit hq hb hi
    rw [bit (i := 0) (by decide), bit (i := 1) (by decide), bit (i := 2) (by decide), bit (i := 3) (by decide),
      bit (i := 4) (by decide), bit (i := 5) (by decide), bit (i := 6) (by decide), bit (i := 7) (by decide)]
    exact ⟨notReady_iff, Lane.isLeading_iff, underdried_eq_false, hotWeb_eq_false, anyStale_iff,
      warmChillWater_eq_false, .rfl, rfl⟩

end Sys2Proof.Machine
end

section
/-! PROOF. One millisecond with no command waiting: every running timer moves on by it, or stands at its last ms with
its expiry posted or owed. -/

namespace Sys2Proof.Machine

/-! ## What falls due is posted or owed -/

theorem State.post_pass {s : State} (h : s.pending = []) : ∃ posted left, posted ++ left = s.due ∧ posted.length ≤ 1 ∧
    s.pass.post = { s.later with pending := posted, owed := left, freeIndex := s.freeUsed } := by
  have pass : s.pass = { s.later with pending := [], owed := s.due, freeIndex := s.freeUsed } := by
    rw [← show s.later.pending = [] from h]
    rfl
  rw [pass]
  cases s.due with
  | nil => exact ⟨[], [], rfl, Nat.zero_le _, rfl⟩
  | cons i rest => exact ⟨[i], rest, rfl, Nat.le_refl _, rfl⟩

section
variable {s t : State} {i : Instr}

theorem countsDown_down {ms : Nat} (h : downDue ms = true → Awaits t i) : CountsDown ms (down ms) i t := by
  unfold CountsDown down
  cases hd : downDue ms with
  | true => exact ⟨fun _ => absurd hd (by simp [downDue]; omega), fun _ => ⟨rfl, h hd⟩⟩
  | false =>
    have : 1 < ms := by simpa [downDue] using hd
    exact ⟨fun _ => by simp only [Bool.false_eq_true, if_false]; omega, fun _ => by omega⟩

theorem countsUp_up {limit ms : Nat} (h : upDue limit ms = true → Awaits t i) :
    CountsUp limit ms (up limit ms) i t := by
  unfold CountsUp up
  cases hd : upDue limit ms with
  | true => exact ⟨fun _ => absurd hd (by simp [upDue]; omega), fun _ => ⟨rfl, h hd⟩⟩
  | false =>
    have : ms + 1 < limit := by simpa [upDue] using hd
    exact ⟨fun _ => rfl, fun _ => by omega⟩

theorem laneExpiry_mem_expiries {n : LaneId} (h : i ∈ ([.decelGraceExpiry n, .residualHoldExpiry n, .bandLeadTimeout n,
    .confirmedBreak n, .encoderWindow n] : List Instr)) : i ∈ s.expiries := by
  refine List.mem_append_left _ (List.mem_append_left _ ?_)
  exact List.mem_flatten.2 ⟨_, List.mem_map.2 ⟨n, LaneId.mem_all n, rfl⟩, h⟩

theorem readingStale_mem_expiries (c : Channel) : .readingStale c ∈ s.expiries :=
  List.mem_append_left _ (List.mem_append_right _ (List.mem_map.2 ⟨c, channel_mem_all c, rfl⟩))

theorem partExpiry_mem_expiries (h : i ∈ [.cadencePhaseEnd, .masterSilent,
    .slotWriteDone (Config.writeVerifies s.freeIndex), .purgeFailed, .cooldownTimeout, .flowWindow, .shortFrame [],
    .answerBegin, .answerEnd, .evaluation]) : i ∈ s.expiries := List.mem_append_right _ h

end

/-! ## Each timer -/

section
variable {s t : State} (owes : ∀ i, i ∈ s.due → Awaits t i)
include owes

theorem awaits_of_isDue {i : Instr} (he : i ∈ s.expiries) (hc : s.chosen i = true) (hd : s.isDue i = true) :
    Awaits t i := owes i ((s.mem_due i).2 ((s.mem_dueEvents i).2 ⟨he, hd, hc⟩))

theorem evalMs_later : CountsUp 500 s.arbiter.evalMs s.later.arbiter.evalMs .evaluation t :=
  countsUp_up fun hd => awaits_of_isDue owes (partExpiry_mem_expiries (by simp)) rfl hd

theorem flowWindowMs_later : CountsUp 500 s.exhaust.windowMs s.later.exhaust.windowMs .flowWindow t :=
  countsUp_up fun hd => awaits_of_isDue owes (partExpiry_mem_expiries (by simp)) rfl hd

theorem purgeMs_later : if s.dryer.state = .purge
    then CountsUp 600000 s.dryer.purgeMs s.later.dryer.purgeMs .purgeFailed t
    else s.later.dryer.purgeMs = s.dryer.purgeMs := by
  have after : s.later.dryer.purgeMs = if s.dryer.state = .purge then up 600000 s.dryer.purgeMs else s.dryer.purgeMs := rfl
  rw [after]
  split
  case isTrue hs =>
    exact countsUp_up fun hd => awaits_of_isDue owes (partExpiry_mem_expiries (by simp)) rfl (by simp [State.isDue, hs, hd])
  case isFalse => rfl

theorem cooldownMs_later : if s.dryer.state = .cooldown
    then CountsUp 1800000 s.dryer.cooldownMs s.later.dryer.cooldownMs .cooldownTimeout t
    else s.later.dryer.cooldownMs = s.dryer.cooldownMs := by
  have after : s.later.dryer.cooldownMs =
    if s.dryer.state = .cooldown then up 1800000 s.dryer.cooldownMs else s.dryer.cooldownMs := rfl
  rw [after]
  split
  case isTrue hs =>
    exact countsUp_up fun hd => awaits_of_isDue owes (partExpiry_mem_expiries (by simp)) rfl (by simp [State.isDue, hs, hd])
  case isFalse => rfl

theorem heartbeatMs_later : if s.heartbeat.armed = true ∧ s.heartbeat.silent = false
    then CountsDown s.heartbeat.timerMs s.later.heartbeat.timerMs .masterSilent t
    else s.later.heartbeat.timerMs = s.heartbeat.timerMs := by
  have after : s.later.heartbeat.timerMs =
    if s.heartbeat.armed && !s.heartbeat.silent then down s.heartbeat.timerMs else s.heartbeat.timerMs := rfl
  rw [after]
  split
  case isTrue hs =>
    rw [if_pos (by simp [hs])]
    exact countsDown_down fun hd =>
      awaits_of_isDue owes (partExpiry_mem_expiries (by simp)) rfl (by simp [State.isDue, hs, hd])
  case isFalse hs => rw [if_neg (by simpa using hs)]

theorem cadence_later {c d : Cadence} (hc : s.horn.cadence = some c) (hd : s.later.horn.cadence = some d) :
    d = { c with leftMs := d.leftMs } ∧ CountsDown c.leftMs d.leftMs .cadencePhaseEnd t := by
  have after : s.later.horn.cadence = s.horn.cadence.map fun c => { c with leftMs := down c.leftMs } := rfl
  rw [after, hc, Option.map_some, Option.some.injEq] at hd
  subst hd
  exact ⟨rfl, countsDown_down fun hd =>
    awaits_of_isDue owes (partExpiry_mem_expiries (by simp)) rfl (by simp [State.isDue, optionDue, hc, hd])⟩

theorem commit_later {c d : Commit} (hc : s.commit = some c) (hd : s.later.commit = some d) :
    d = { c with elapsedMs := d.elapsedMs } ∧ (c.elapsedMs + 1 < 25 → d.elapsedMs = c.elapsedMs + 1) ∧
      (25 ≤ c.elapsedMs + 1 → d.elapsedMs = c.elapsedMs ∧ ∃ v, Awaits t (.slotWriteDone v)) := by
  have after : s.later.commit = s.commit.map fun c => { c with elapsedMs := up 25 c.elapsedMs } := rfl
  rw [after, hc, Option.map_some, Option.some.injEq] at hd
  subst hd
  have counts : CountsUp 25 c.elapsedMs (up 25 c.elapsedMs) (.slotWriteDone (Config.writeVerifies s.freeIndex)) t :=
    countsUp_up fun hd => awaits_of_isDue owes (partExpiry_mem_expiries (by simp)) rfl (by simp [State.isDue, hc, hd])
  exact ⟨rfl, counts.1, fun h => ⟨(counts.2 h).1, _, (counts.2 h).2⟩⟩

theorem graceMs_later (n : LaneId) : if 0 < (s.lane n).graceMs
    then CountsDown (s.lane n).graceMs (s.later.lane n).graceMs (.decelGraceExpiry n) t
    else (s.later.lane n).graceMs = 0 := by
  have after : (s.later.lane n).graceMs = down (s.lane n).graceMs := by rw [s.lane_later]; rfl
  rw [after]
  split
  case isTrue hs =>
    exact countsDown_down fun hd =>
      awaits_of_isDue owes (laneExpiry_mem_expiries (n := n) (by simp)) rfl (by simp [State.isDue, hs, hd])
  case isFalse hs => rw [Nat.eq_zero_of_not_pos hs]; rfl

theorem residualMs_later (n : LaneId) : if (s.lane n).residual = none
    then (s.later.lane n).residualMs = (s.lane n).residualMs
    else CountsDown (s.lane n).residualMs (s.later.lane n).residualMs (.residualHoldExpiry n) t := by
  have after : (s.later.lane n).residualMs =
    if (s.lane n).residual.isSome then down (s.lane n).residualMs else (s.lane n).residualMs := by rw [s.lane_later]; rfl
  rw [after]
  split
  case isTrue hs => rw [if_neg (by simp [hs])]
  case isFalse hs =>
    have some : (s.lane n).residual.isSome = true := Option.isSome_iff_ne_none.2 hs
    rw [if_pos some]
    exact countsDown_down fun hd =>
      awaits_of_isDue owes (laneExpiry_mem_expiries (n := n) (by simp)) rfl (by simp [State.isDue, some, hd])

theorem leadMs_later (n : LaneId) :
    if (s.lane n).isLeading = true ∧ (s.lane n).leadMs < s.cal.values.leadTimeout * 1000
    then CountsUp (s.cal.values.leadTimeout * 1000) (s.lane n).leadMs (s.later.lane n).leadMs (.bandLeadTimeout n) t
    else (s.later.lane n).leadMs = (s.lane n).leadMs := by
  have after : (s.later.lane n).leadMs =
    if (s.lane n).isLeading && decide ((s.lane n).leadMs < s.cal.values.leadTimeout * 1000)
    then up (s.cal.values.leadTimeout * 1000) (s.lane n).leadMs else (s.lane n).leadMs := by rw [s.lane_later]; rfl
  rw [after]
  split
  case isTrue hs =>
    rw [if_pos (by simp [hs])]
    exact countsUp_up fun hd =>
      awaits_of_isDue owes (laneExpiry_mem_expiries (n := n) (by simp)) rfl (by simp [State.isDue, hs, hd])
  case isFalse hs => rw [if_neg (by simpa using hs)]

theorem encoderWindowMs_later (n : LaneId) :
    CountsUp 500 (s.lane n).encoder.windowMs (s.later.lane n).encoder.windowMs (.encoderWindow n) t := by
  have after : (s.later.lane n).encoder.windowMs = up 500 (s.lane n).encoder.windowMs := by rw [s.lane_later]; rfl
  rw [after]
  exact countsUp_up fun hd => awaits_of_isDue owes (laneExpiry_mem_expiries (n := n) (by simp)) rfl hd

theorem breakTimer_later {n : LaneId} {a b : Nat} (ha : (s.breakInput n).timer = some a)
    (hb : (s.later.breakInput n).timer = some b) : CountsDown a b (.confirmedBreak n) t := by
  have after : s.later.breakInput n = { s.breakInput n with timer := (s.breakInput n).timer.map down } :=
    PerLane.get_form ..
  rw [after, ha] at hb
  cases hb
  exact countsDown_down fun hd =>
    awaits_of_isDue owes (laneExpiry_mem_expiries (n := n) (by simp)) rfl (by simp [State.isDue, optionDue, ha, hd])

theorem ageMs_later (c : Channel) : if (s.reading c).fresh = true
    then CountsUp (s.cal.values.staleAge * 1000) (s.reading c).ageMs (s.later.reading c).ageMs (.readingStale c) t
    else (s.later.reading c).ageMs = (s.reading c).ageMs := by
  rw [s.reading_later, Reading.later]
  split
  case isTrue hs =>
    exact countsUp_up fun hd => awaits_of_isDue owes (readingStale_mem_expiries c) rfl
      (by simp only [State.isDue, hs, Bool.true_and]; exact hd)
  case isFalse => rfl

theorem receiveMs_later (h : s.port.state = .receive ∨ s.port.state = .hold) :
    s.later.port.answerMs = s.port.answerMs ∧
      CountsUp (gapMs s.port.rate) s.port.idleMs s.later.port.idleMs (.shortFrame []) t := by
  have after : s.later.port = { s.port with idleMs := up (gapMs s.port.rate) s.port.idleMs } := by
    rcases h with h | h <;> simp only [State.later, State.portLater, h]
  rw [after]
  exact ⟨rfl, countsUp_up fun hd =>
    awaits_of_isDue owes (partExpiry_mem_expiries (by simp)) rfl (by simp [State.isDue, h, hd])⟩

theorem answerMs_later (h : s.port.state = .answer) : s.later.port.idleMs = s.port.idleMs ∧
    (s.port.driving = true → CountsUp (charactersMs s.port.rate s.port.answer.length) s.port.answerMs
      s.later.port.answerMs .answerEnd t) ∧
    (s.port.driving = false → (s.later.port.answerMs = s.port.answerMs + 1 ∨
        s.later.port.answerMs = s.port.answerMs ∧ Awaits t .answerBegin) ∧
      (windowMs s.port.rate ≤ s.port.answerMs + 1 → Awaits t .answerBegin)) := by
  have after : s.later.port = { s.port with
      answerMs := if s.port.driving then up s.answerMs s.port.answerMs else up s.answerDelay s.port.answerMs } := by
    simp only [State.later, State.portLater, h]
  rw [after]
  refine ⟨rfl, fun hd => ?_, fun hd => ⟨?_, fun hw => owes _ (State.answerBegin_mem_due h hd hw)⟩⟩
  · simp only [hd, if_true]
    exact countsUp_up fun he =>
      awaits_of_isDue owes (partExpiry_mem_expiries (by simp)) rfl (by simp only [State.isDue, h, hd]; exact he)
  · simp only [hd, Bool.false_eq_true, if_false, up]
    split
    case isTrue chosen =>
      exact .inr ⟨rfl, awaits_of_isDue owes (partExpiry_mem_expiries (by simp)) chosen (by simp [State.isDue, h, hd])⟩
    case isFalse => exact .inl rfl

end

/-! ## What else the millisecond leaves -/

section
variable (s : State)

theorem port_later : s.later.port = { s.port with idleMs := s.later.port.idleMs, answerMs := s.later.port.answerMs } := by
  unfold State.later State.portLater
  dsimp only
  split <;> rfl

theorem hunt_later (h : s.port.state = .hunt) : s.later.port.answerMs = s.port.answerMs ∧
    s.later.port.idleMs = if s.port.held = true then 0 else min (gapMs s.port.rate) (s.port.idleMs + 1) := by
  simp [State.later, State.portLater, h]

theorem lane_later_rest (n : LaneId) : s.later.lane n = { s.lane n with
    graceMs := (s.later.lane n).graceMs, residualMs := (s.later.lane n).residualMs, leadMs := (s.later.lane n).leadMs
    encoder := { (s.lane n).encoder with sinceUs := 7, windowMs := (s.later.lane n).encoder.windowMs } } := by
  rw [s.lane_later]
  rfl

theorem breakInput_later_rest (n : LaneId) : (s.later.breakInput n).level = (s.breakInput n).level ∧
    (s.later.breakInput n).timer.isSome = (s.breakInput n).timer.isSome := by
  have after : s.later.breakInput n = { s.breakInput n with timer := (s.breakInput n).timer.map down } :=
    PerLane.get_form ..
  rw [after]
  exact ⟨rfl, Option.isSome_map⟩

theorem reading_later_rest (c : Channel) :
    s.later.reading c = { s.reading c with ageMs := (s.later.reading c).ageMs } := by
  rw [s.reading_later, Reading.later]
  split <;> rfl

end

/-! ## The step -/

/-- An expiry whose timer is no longer at its end is dropped: the rest is taken as if it had not been owed. -/
theorem tick_dropped {s : State} {i : Instr} {rest : List Instr} (hp : s.powered = true) (hr : s.resetDue = false)
    (h : s.owed = i :: rest) (hd : s.isDue i = false) : s.tick = ({ s with owed := rest } : State).tick := by
  have on : (!s.powered) ≠ true := by simp [hp]
  have idle : s.resetDue ≠ true := by simp [hr]
  unfold State.tick
  rw [if_neg on, if_neg idle, State.stillOwed_dropped h hd]
  exact ((if_neg on).trans (if_neg idle)).symm

theorem tick_due {s : State} {i : Instr} {rest : List Instr} (hp : s.powered = true) (hr : s.resetDue = false)
    (h : s.owed = i :: rest) (hd : s.isDue i = true) : s.tick = { s with owed := rest, pending := [i] } := by
  unfold State.tick
  rw [State.stillOwed_due h hd, hp, hr]
  rfl

theorem tick_passes {s : State} (hp : s.powered = true) (hr : s.resetDue = false) (h : s.owed = []) :
    s.tick = s.pass.post := by
  unfold State.tick State.stillOwed
  rw [hp, hr, h]
  rfl

/-- Settles O2: what falls due is posted or owed, and each timer is `down` or `up` of what it was. -/
theorem idleStepPassesOneMillisecond : Obligations.IdleStepPassesOneMillisecond := by
  intro s hq hp hr
  refine ⟨fun ho => ?_, fun i rest ho => ⟨fun hd => ?_, fun hd => ?_⟩⟩
  · obtain ⟨posted, left, parts, short, after⟩ := State.post_pass hq
    rw [step_idle hq, tick_passes hp hr ho, after]
    refine ⟨_, rfl, ?_⟩
    have owes : ∀ i, i ∈ s.due → Awaits { s.later with pending := posted, owed := left, freeIndex := s.freeUsed } i :=
      fun i hi => List.mem_append.1 (parts ▸ hi)
    have due : ∀ i, i ∈ posted ++ left → s.isDue i = true := fun i hi => State.isDue_of_mem_due (parts ▸ hi)
    refine ⟨rfl, rfl, rfl, rfl, rfl, rfl, rfl, rfl, rfl, rfl, rfl, rfl, evalMs_later owes, rfl, flowWindowMs_later owes,
      rfl, purgeMs_later owes, cooldownMs_later owes, rfl, heartbeatMs_later owes, ?_⟩
    refine ⟨rfl, Option.isSome_map, fun c hc d hd => cadence_later owes hc hd, Option.isSome_map,
      fun c hc d hd => commit_later owes hc hd, fun n => ?_, fun c => ⟨reading_later_rest s c, ageMs_later owes c⟩, ?_⟩
    · obtain ⟨level, timer⟩ := breakInput_later_rest s n
      exact ⟨lane_later_rest s n, graceMs_later owes n, residualMs_later owes n, leadMs_later owes n,
        encoderWindowMs_later owes n, level, timer, fun a ha b hb => breakTimer_later owes ha hb⟩
    · exact ⟨port_later s, hunt_later s, receiveMs_later owes, answerMs_later owes, due, short⟩
  · rw [step_idle hq, tick_due hp hr ho hd]
  · rw [step_idle hq, tick_dropped hp hr ho hd]
    exact (step_idle (s := { s with owed := rest }) hq).symm

end Sys2Proof.Machine
end

section
/-! PROOF. The load of one lane beside those of the others, and fitting speeds against them (R26, R27, R38, R39, R40); and
what a lane that no stage has acted on brings to the arbiter. -/

namespace Sys2Proof.Machine

/-! ## Fitting speeds -/

section
variable {f : ProfileFields} {b : Int} {fit : Nat}

theorem loadAt_mono (f : ProfileFields) {u v : Nat} (h : u ≤ v) : f.loadAt u ≤ f.loadAt v := by
  rw [loadAt_le_iff]
  exact (Nat.mul_le_mul_right _ h).trans (loadAt_le_iff.1 le_rfl)

theorem fittingSpeed_eq_none : f.fittingSpeed b = none ↔ b ≤ 0 := by
  unfold ProfileFields.fittingSpeed
  split
  next h => exact iff_of_true rfl h
  next h => exact iff_of_false (by split <;> nofun) h

theorem loadAt_of_no_load (h : f.arealLoad = 0) (u : Nat) : f.loadAt u = 0 :=
  Nat.le_zero.1 (loadAt_le_iff.2 (by simp [h]))

theorem fittingSpeed_of_no_load (h : f.arealLoad = 0) (hf : f.fittingSpeed b = some fit) : fit = maxSpeed f.bands := by
  unfold ProfileFields.fittingSpeed at hf
  split at hf
  · cases hf
  · simpa [h] using hf.symm

theorem pos_of_fittingSpeed (hf : f.fittingSpeed b = some fit) : 0 < b := by
  by_contra hb
  rw [fittingSpeed_eq_none.2 (not_lt.1 hb)] at hf
  cases hf

/-- The load at a speed up to the fitting speed is within the budget (R40). -/
theorem loadAt_le_budget (v : ValidFields f) (hf : f.fittingSpeed b = some fit) {u : Nat} (hu : u ≤ fit) :
    (f.loadAt u : Int) ≤ b := by
  rcases Nat.eq_zero_or_pos f.arealLoad with areal | areal
  · rw [loadAt_of_no_load areal]
    exact (pos_of_fittingSpeed hf).le
  · obtain ⟨w, hw, -, -, -, fits⟩ := fittingSpeedExact f b v areal (pos_of_fittingSpeed hf)
    cases hw.symm.trans hf
    exact fits u hu

/-- One step of the grid above the fitting speed the budget no longer holds the load (R40). -/
theorem budget_lt_loadAt (v : ValidFields f) (areal : 0 < f.arealLoad) (hf : f.fittingSpeed b = some fit) :
    b < (f.loadAt (fit + 5) : Int) := by
  obtain ⟨w, hw, -, -, above, -⟩ := fittingSpeedExact f b v areal (pos_of_fittingSpeed hf)
  cases hw.symm.trans hf
  exact above

/-- A lane whose load at its speed is over its budget has a fitting speed below that speed. -/
theorem fittingSpeed_lt (v : ValidFields f) {g : Nat} (hg : 0 < g) (exceeds : b < (f.loadAt g : Int)) :
    (f.fittingSpeed b).getD 0 < g := by
  cases hf : f.fittingSpeed b with
  | none => exact hg
  | some fit =>
    by_contra h
    exact absurd (loadAt_le_budget v hf (not_lt.1 h)) (not_le.2 exceeds)

end

/-! ## The total and one lane -/

section
variable {s t : State}

theorem totalLoad_mono (h : ∀ n, s.laneLoad n ≤ t.laneLoad n) : s.totalLoad ≤ t.totalLoad := by
  have := h .one
  have := h .two
  have := h .three
  have := h .four
  simp only [State.totalLoad, sumLanes]
  omega

theorem totalLoad_eq (h : ∀ n, t.laneLoad n = s.laneLoad n) : t.totalLoad = s.totalLoad := by
  simp only [State.totalLoad, sumLanes, h]

/-- The loads beside a lane grow with those of the other lanes. -/
theorem besideLoad_mono {n : LaneId} (h : ∀ m, m ≠ n → s.laneLoad m ≤ t.laneLoad m) :
    (s.totalLoad : Int) - (s.laneLoad n : Int) ≤ (t.totalLoad : Int) - (t.laneLoad n : Int) := by
  have one := h .one
  have two := h .two
  have three := h .three
  have four := h .four
  simp only [State.totalLoad, sumLanes]
  cases n <;> simp only [ne_eq, reduceCtorEq, not_false_eq_true, true_implies, not_true_eq_false] at * <;> omega

/-- A change of one lane's load changes the total by as much. -/
theorem besideLoad_eq {n : LaneId} (h : ∀ m, m ≠ n → t.laneLoad m = s.laneLoad m) :
    (t.totalLoad : Int) - (t.laneLoad n : Int) = (s.totalLoad : Int) - (s.laneLoad n : Int) :=
  le_antisymm (besideLoad_mono fun m hm => (h m hm).le) (besideLoad_mono fun m hm => (h m hm).ge)

theorem laneLoad_moving {n : LaneId} (h : (s.lane n).state.moving = true) : s.laneLoad n =
    s.loadAt n (if (s.lane n).overspeed then (s.lane n).measured else (s.lane n).g) := by
  have speed : (s.lane n).countedSpeed = if (s.lane n).overspeed then (s.lane n).measured else (s.lane n).g := if_pos h
  unfold State.laneLoad
  rw [← speed]
  dsimp only
  revert h
  cases (s.lane n).state <;> simp [LaneState.moving]

theorem laneLoad_same {n : LaneId} (h : (s.lane n).SameLoad (t.lane n)) (key : (t.lane n).key = (s.lane n).key)
    (profiles : t.profiles = s.profiles) : t.laneLoad n = s.laneLoad n := by
  obtain ⟨state, g, -, measured, overspeed, residual⟩ := h
  have profile : t.profileOf n = s.profileOf n := by unfold State.profileOf; rw [key, profiles]
  unfold State.laneLoad Lane.countedSpeed State.loadAt
  simp only [state, g, measured, overspeed, residual, profile]

theorem profileOf_mem {n : LaneId} {p : Profile} (h : s.profileOf n = some p) : p ∈ s.profiles := by
  unfold State.profileOf at h
  split at h
  · cases h
  · exact findProfile_mem h

theorem loadAt_profile {n : LaneId} {p : Profile} (h : s.profileOf n = some p) (u : Nat) : s.loadAt n u = p.loadAt u := by
  rw [State.loadAt, h, Option.map_some, Option.getD_some]

theorem stateLoadAt_mono (s : State) (n : LaneId) {u v : Nat} (h : u ≤ v) : s.loadAt n u ≤ s.loadAt n v := by
  cases hp : s.profileOf n with
  | none => simp [State.loadAt, hp]
  | some p =>
    rw [loadAt_profile hp, loadAt_profile hp]
    exact loadAt_mono p.toProfileFields h

theorem bandsOf_profile {n : LaneId} {p : Profile} (h : s.profileOf n = some p) : s.bandsOf n = p.bands := by
  unfold State.bandsOf
  rw [h]
  rfl

theorem fittingSpeed_profile {n : LaneId} {p : Profile} (h : s.profileOf n = some p) (capacity : Nat) :
    s.fittingSpeed capacity n = p.fittingSpeed (s.budget capacity n) := by
  unfold State.fittingSpeed
  rw [h]
  rfl

theorem fittingSpeed_some {n : LaneId} {capacity fit : Nat} (h : s.fittingSpeed capacity n = some fit) :
    ∃ p, s.profileOf n = some p ∧ p.fittingSpeed (s.budget capacity n) = some fit := Option.bind_eq_some_iff.1 h

end

/-! ## Heat bands -/

theorem bandAt_mono {bands : List Band} (w : BandsLaw bands) {j k : Nat} (h : j ≤ k) (hj : 1 ≤ j) (hk : k ≤ bands.length) :
    (bandAt bands j).bound ≤ (bandAt bands k).bound := by
  have hj' : j - 1 < bands.length := by omega
  have hk' : k - 1 < bands.length := by omega
  unfold bandAt
  rw [List.getD_eq_getElem _ _ hj', List.getD_eq_getElem _ _ hk']
  rcases Nat.eq_or_lt_of_le h with rfl | hlt
  · exact Nat.le_refl _
  · exact (List.pairwise_iff_getElem.1 w.ascend _ _ hj' hk' (by omega)).le

/-- A lane's speed is within the bound of its heat band. -/
theorem g_le_heatBand {l : Lane} {bands : List Band} {crawl : Nat} {heating queued : Prop} (w : BandsLaw bands)
    (paced : l.Paced bands crawl heating) (aimed : l.Aimed bands heating queued) :
    l.g ≤ (bandAt bands (l.heatBand bands)).bound := by
  refine (le_boundOf paced.atMostMax).trans ?_
  unfold Lane.heatBand
  cases hd : l.lead with
  | none => exact Nat.le_refl _
  | some d =>
    obtain ⟨-, above, within⟩ := aimed.lead d hd
    dsimp only
    rw [Nat.max_eq_right above.le]
    exact bandAt_mono w above.le (bandOf_pos ..) within

/-! ## A lane that no stage has acted on -/

/-- Lane `n` is as it was but for its hot-web count, and so is what the arbiter goes by for it. -/
structure Alike (n : LaneId) (s t : State) : Prop where
  lane : t.lane n = { s.lane n with hotWeb := (t.lane n).hotWeb }
  entry : n ∈ t.arbiter.queue ↔ n ∈ s.arbiter.queue
  readings : t.readings = s.readings
  profiles : t.profiles = s.profiles
  cal : t.cal = s.cal

theorem Alike.refl (n : LaneId) (s : State) : Alike n s s := ⟨rfl, .rfl, rfl, rfl, rfl⟩

theorem Alike.trans {n : LaneId} {s t u : State} (h : Alike n s t) (h' : Alike n t u) : Alike n s u :=
  ⟨by rw [h'.lane, h.lane], h'.entry.trans h.entry, h'.readings.trans h.readings, h'.profiles.trans h.profiles,
    h'.cal.trans h.cal⟩

theorem Besides.alike {n : LaneId} {s t : State} (h : Besides n s t) (q : Quiet s t) : Alike n s t :=
  ⟨by rw [h.lane], h.entry, q.readings, q.profiles, q.cal⟩

section
variable {n : LaneId} {s t : State} (a : Alike n s t)
include a

theorem Alike.g : (t.lane n).g = (s.lane n).g := by rw [a.lane]

theorem Alike.target : (t.lane n).target = (s.lane n).target := by rw [a.lane]

theorem Alike.lead : (t.lane n).lead = (s.lane n).lead := by rw [a.lane]

theorem Alike.stamp : (t.lane n).stamp = (s.lane n).stamp := by rw [a.lane]

theorem Alike.profileOf : t.profileOf n = s.profileOf n := by
  unfold State.profileOf
  rw [a.lane, a.profiles]

theorem Alike.bandsOf : t.bandsOf n = s.bandsOf n := by
  unfold State.bandsOf
  rw [a.profileOf]

theorem Alike.heatBand (bands : List Band) : (t.lane n).heatBand bands = (s.lane n).heatBand bands := by rw [a.lane]; rfl

theorem Alike.laneLoad : t.laneLoad n = s.laneLoad n := by
  refine laneLoad_same ?_ (by rw [a.lane]) a.profiles
  rw [a.lane]
  exact ⟨rfl, rfl, rfl, rfl, rfl, rfl⟩

theorem Alike.candidate (target fit : Nat) : t.candidate n target fit = s.candidate n target fit := by
  unfold State.candidate
  dsimp only
  rw [a.bandsOf, a.heatBand, a.g, a.cal]

theorem Alike.zonesInBand : t.zonesInBand n = s.zonesInBand n :=
  State.zonesInBand_congr (by rw [a.lane]) a.heatBand a.profiles a.readings a.cal

theorem Alike.held : t.held n = s.held n := by
  have queued : t.queued n = s.queued n := by rw [Bool.eq_iff_iff, queued_iff, queued_iff, a.entry]
  have band : t.runningBand n = s.runningBand n := by unfold State.runningBand; rw [a.bandsOf, a.g]
  have reading (c : Channel) : t.reading c = s.reading c := reading_congr a.readings c
  unfold State.held State.holds State.notReady State.underdried State.hotWeb State.anyStale State.warmChillWater
  rw [queued, band]
  simp only [reading, a.cal]
  rw [a.lane]
  rfl

end

end Sys2Proof.Machine
end

section
/-! PROOF. One entry of the grant queue served (R48, R76, R77, R78): raised, given its lead, or left as it stands. -/

namespace Sys2Proof.Machine

/-! ## A raise -/

/-- Lane `n` raised to `v` on the way to `T`, where its entry leaves the queue (R48, R65, R77). -/
structure RaisedTo (n : LaneId) (s t : State) (v T : Nat) : Prop where
  g : (t.lane n).g = v
  stamp : (t.lane n).stamp = s.arbiter.stamp + 1
  counter : t.arbiter.stamp = s.arbiter.stamp + 1
  running : s.cal.values.crawl < v → (t.lane n).state = .running
  load : t.laneLoad n = s.loadAt n v
  reached : v = T → (t.lane n).target = none ∧ n ∉ t.arbiter.queue ∧ t.attention.isLatched .grantReached = true ∧
    t.attention.sets.grantReached &&& n.bit ≠ 0
  below : v ≠ T → (t.lane n).target = some T ∧ n ∈ t.arbiter.queue

/-- What a raise leaves of the record of a lane, and its state, which is READY or RUNNING before. -/
structure Lane.RaisedFrom (l m : Lane) (v crawl : Nat) (stamp : BitVec 16) : Prop where
  g : m.g = v
  stamp : m.stamp = stamp
  running : crawl < v → m.state = .running
  moving : m.state.moving = true
  overspeed : m.overspeed = l.overspeed
  key : m.key = l.key

section
variable {l : Lane} {v crawl : Nat} {stamp : BitVec 16}

theorem Lane.raisedFrom_raised (h : l.state = .ready ∨ l.state = .running) (bands : List Band) :
    l.RaisedFrom (l.raised v crawl stamp bands) v crawl stamp := by
  have sped : l.RaisedFrom (l.sped v crawl stamp) v crawl stamp := by
    refine ⟨rfl, rfl, fun hv => ?_, ?_, rfl, rfl⟩
    · rcases h with e | e <;> simp [Lane.sped, e, hv]
    · rcases h with e | e <;> simp only [Lane.sped, e] <;> split <;> rfl
  rw [Lane.raised_eq]
  rcases (l.sped v crawl stamp).leadReached_cases bands with ⟨e, -⟩ | e <;> rw [e]
  · exact sped
  · exact { sped with }

theorem Lane.raised_target (l : Lane) (v crawl : Nat) (stamp : BitVec 16) (bands : List Band) :
    (l.raised v crawl stamp bands).target = l.target := by
  rw [Lane.raised_eq]
  rcases (l.sped v crawl stamp).leadReached_cases bands with ⟨e, -⟩ | e <;> rw [e] <;> rfl

theorem Lane.RaisedFrom.judged {m : Lane} (h : l.RaisedFrom m v crawl stamp) (b : Option Bool) :
    l.RaisedFrom (m.judged b) v crawl stamp where
  g := by rw [Lane.judged_g, h.g]
  stamp := by rw [Lane.judged_stamp, h.stamp]
  running hv := (Lane.judged_running ..).2 (h.running hv)
  moving := by rw [Lane.judged_moving, h.moving]
  overspeed := by rw [Lane.judged_overspeed, h.overspeed]
  key := by rw [Lane.judged_key, h.key]

end

section
variable {s : State} {n : LaneId} {v T : Nat}

theorem lane_raise_same (s : State) (n : LaneId) (v : Nat) : ∃ b, (s.raise n v).lane n =
    ((s.lane n).raised v s.cal.values.crawl (s.arbiter.stamp + 1) (s.bandsOf n)).judged b :=
  ⟨_, (State.lane_settle_same ..).trans (congrArg (Lane.judged · _) (State.lane_modLane_same ..))⟩

/-- A lane that counts at its granted speed brings its profile's load at it (R25, R26). -/
theorem laneLoad_granted {t : State} {speed : Nat} (moving : (t.lane n).state.moving = true)
    (judged : (t.lane n).overspeed = false) (g : (t.lane n).g = speed) (key : (t.lane n).key = (s.lane n).key)
    (profiles : t.profiles = s.profiles) : t.laneLoad n = s.loadAt n speed := by
  have profile : t.profileOf n = s.profileOf n := by unfold State.profileOf; rw [key, profiles]
  rw [laneLoad_moving moving, judged, if_neg Bool.false_ne_true, g]
  unfold State.loadAt
  rw [profile]

theorem raisedTo_raiseToward (hT : (s.lane n).target = some T) (queued : n ∈ s.arbiter.queue)
    (h : (s.lane n).state = .ready ∨ (s.lane n).state = .running) (judged : (s.lane n).overspeed = false) :
    RaisedTo n s (s.raiseToward n v T) v T := by
  obtain ⟨b, lane⟩ := lane_raise_same s n v
  have raised := (Lane.raisedFrom_raised (v := v) (crawl := s.cal.values.crawl) (stamp := s.arbiter.stamp + 1) h
    (s.bandsOf n)).judged b
  have target : ((s.raise n v).lane n).target = some T := by rw [lane, Lane.judged_target, Lane.raised_target, hT]
  rw [← lane] at raised
  unfold State.raiseToward
  dsimp only
  split
  next e =>
    set u := ((s.raise n v).removeTarget n).settle n with hu
    have left : u.lane n = ({ ((s.raise n v).lane n).clearLead with target := none } : Lane).judged
        (((s.raise n v).removeTarget n).zonesInBand n) := by
      rw [hu, State.lane_settle_same, State.lane_removeTarget_same]
    have gone : n ∉ u.arbiter.queue := by
      rw [hu, State.settle_arbiter, State.removeTarget_queue]
      simp
    have counter : u.arbiter.stamp = s.arbiter.stamp + 1 := rfl
    have profiles : u.profiles = s.profiles := rfl
    have cleared : (s.lane n).RaisedFrom { ((s.raise n v).lane n).clearLead with target := none } v s.cal.values.crawl
        (s.arbiter.stamp + 1) := { raised with }
    have after := cleared.judged (((s.raise n v).removeTarget n).zonesInBand n)
    have goal : (u.lane n).target = none := by rw [left, Lane.judged_target]
    rw [← left] at after
    clear_value u
    exact ⟨after.g, after.stamp, counter, after.running,
      laneLoad_granted after.moving (after.overspeed.trans judged) after.g after.key profiles,
      fun _ => ⟨goal, gone, by simp, (or_bit_and_ne_zero ..).2 (.inr rfl)⟩, fun hne => absurd e hne⟩
  next hne =>
    exact ⟨raised.g, raised.stamp, rfl, raised.running,
      laneLoad_granted raised.moving (raised.overspeed.trans judged) raised.g raised.key rfl,
      fun e => absurd e hne, fun _ => ⟨target, queued⟩⟩

end

/-! ## A lead -/

/-- Lane `n` given the lead into the next band (R78), LED at once where its zones are in that band (R79). -/
structure LedOn (n : LaneId) (s t : State) : Prop where
  lead : (t.lane n).lead = some ⟨bandOf (s.bandsOf n) (s.lane n).g + 1,
    if t.zonesInBand n = some true then .led else .leading⟩
  leadMs : (t.lane n).leadMs = 0
  g : (t.lane n).g = (s.lane n).g
  target : (t.lane n).target = (s.lane n).target
  stamp : (t.lane n).stamp = (s.lane n).stamp
  load : t.laneLoad n = s.laneLoad n
  arbiter : t.arbiter = s.arbiter

theorem Lane.judged_led (l : Lane) (d : Lead) (h : l.lead = some d) (hd : d.status = .leading) (b : Option Bool) :
    (l.judged b).lead = some ⟨d.band, if b = some true then .led else .leading⟩ := by
  obtain ⟨band, status⟩ := d
  subst hd
  rcases b with _ | _ | _ <;> simp [Lane.judged, h]

theorem ledOn_beginLead (s : State) (n : LaneId) : LedOn n s (s.beginLead n) := by
  set l : Lane := { s.lane n with lead := some ⟨bandOf (s.bandsOf n) (s.lane n).g + 1, .leading⟩, leadMs := 0 } with hl
  have lane : (s.beginLead n).lane n = l.judged ((s.beginLead n).zonesInBand n) := by
    unfold State.beginLead
    dsimp only
    rw [State.zonesInBand_settle, State.lane_settle_same, State.lane_modLane_same]
  have load : (s.beginLead n).laneLoad n = s.laneLoad n := by
    by_cases moving : (s.lane n).state.moving = true
    · have after : ((s.beginLead n).lane n).state.moving = true := by rw [lane, Lane.judged_moving]; exact moving
      have key : ((s.beginLead n).lane n).key = (s.lane n).key := by rw [lane, Lane.judged_key]
      have at_ (u : Nat) : (s.beginLead n).loadAt n u = s.loadAt n u := by
        have profile : (s.beginLead n).profileOf n = s.profileOf n := by unfold State.profileOf; rw [key]; rfl
        unfold State.loadAt
        rw [profile]
      rw [laneLoad_moving after, laneLoad_moving moving, at_, lane, Lane.judged_overspeed, Lane.judged_measured,
        Lane.judged_g]
    · have still : l.state.moving = false := by simpa using moving
      refine laneLoad_same ?_ (by rw [lane, Lane.judged_key]) rfl
      rw [lane]
      exact ⟨Lane.judged_still still _, Lane.judged_g .., Lane.judged_target .., Lane.judged_measured ..,
        Lane.judged_overspeed .., Lane.judged_residual ..⟩
  exact ⟨by rw [lane]; exact l.judged_led _ rfl rfl _, by rw [lane, Lane.judged_leadMs], by rw [lane, Lane.judged_g],
    by rw [lane, Lane.judged_target], by rw [lane, Lane.judged_stamp], load, rfl⟩

/-! ## What service does with an entry -/

/-- An entry that service does not raise: the lane and the counter of stamps stay, or the lane begins its lead. -/
structure LeftAt (n : LaneId) (s t : State) : Prop where
  g : (t.lane n).g = (s.lane n).g
  target : (t.lane n).target = (s.lane n).target
  stamp : (t.lane n).stamp = (s.lane n).stamp
  load : t.laneLoad n = s.laneLoad n
  arbiter : t.arbiter = s.arbiter

theorem LeftAt.refl (n : LaneId) (s : State) : LeftAt n s s := ⟨rfl, rfl, rfl, rfl, rfl⟩

theorem LedOn.left {n : LaneId} {s t : State} (h : LedOn n s t) : LeftAt n s t :=
  ⟨h.g, h.target, h.stamp, h.load, h.arbiter⟩

/-- A lane at the bound of band(g) without a lead, whose candidate speed is g: it begins its lead (R78). -/
def LeadsAt (s : State) (n : LaneId) (v T : Nat) : Prop :=
  v = (s.lane n).g ∧ (s.lane n).lead = none ∧ (s.lane n).g = boundOf (s.bandsOf n) (s.lane n).g ∧ (s.lane n).g < T

section
variable {s : State} {n : LaneId} {capacity fit T : Nat}

theorem serveLane_unfit (hf : s.fittingSpeed capacity n = none) : s.serveLane capacity n = s := by
  unfold State.serveLane
  rw [hf]
  cases (s.lane n).target <;> rfl

theorem serveLane_aimless (hT : (s.lane n).target = none) : s.serveLane capacity n = s := by
  unfold State.serveLane
  rw [hT]

section
variable (hT : (s.lane n).target = some T) (hf : s.fittingSpeed capacity n = some fit)
include hT hf

theorem serveLane_raises (hv : (s.lane n).g < s.candidate n T fit) :
    s.serveLane capacity n = s.raiseToward n (s.candidate n T fit) T := by
  unfold State.serveLane
  rw [hT, hf]
  exact if_pos hv

theorem serveLane_leads (hv : LeadsAt s n (s.candidate n T fit) T) : s.serveLane capacity n = s.beginLead n := by
  unfold State.serveLane
  rw [hT, hf]
  exact (if_neg (by rw [hv.1]; exact lt_irrefl _)).trans (if_pos hv)

theorem serveLane_left (hv : s.candidate n T fit ≤ (s.lane n).g) : LeftAt n s (s.serveLane capacity n) := by
  by_cases hl : LeadsAt s n (s.candidate n T fit) T
  · rw [serveLane_leads hT hf hl]
    exact (ledOn_beginLead s n).left
  · have passed : s.serveLane capacity n = s := by
      unfold State.serveLane
      rw [hT, hf]
      exact (if_neg (not_lt.2 hv)).trans (if_neg hl)
    rw [passed]
    exact .refl n s

end

/-- A queued lane that no hold keeps is in READY or RUNNING and not overspeeding (R66, R67). -/
theorem unheld_lane (h : Sound s) (queued : n ∈ s.arbiter.queue) (unheld : s.held n = false) :
    ((s.lane n).state = .ready ∨ (s.lane n).state = .running) ∧ (s.lane n).overspeed = false := by
  have moving := (h.lane n).aimed.moving queued
  have threading := not_threading_of_unheld queued unheld
  refine ⟨?_, ?_⟩
  · revert moving threading
    cases (s.lane n).state <;> simp [LaneState.moving]
  · rw [State.held, holds_queued queued] at unheld
    simp only [List.any_cons, List.any_nil, id_eq, Bool.or_eq_false_iff] at unheld
    exact unheld.2.2.2.2.2.2.1

/-- An entry that no hold keeps is raised to its candidate speed, or is left where that is not above g. -/
theorem serveLane_cases (h : Sound s) (unheld : s.held n = false) (capacity : Nat) :
    (∃ T fit, (s.lane n).target = some T ∧ s.fittingSpeed capacity n = some fit ∧
      (s.lane n).g < s.candidate n T fit ∧ RaisedTo n s (s.serveLane capacity n) (s.candidate n T fit) T) ∨
    LeftAt n s (s.serveLane capacity n) ∧ ∀ T fit, (s.lane n).target = some T →
      s.fittingSpeed capacity n = some fit → s.candidate n T fit ≤ (s.lane n).g := by
  cases hT : (s.lane n).target with
  | none => exact .inr ⟨by rw [serveLane_aimless hT]; exact .refl n s, nofun⟩
  | some T =>
    cases hf : s.fittingSpeed capacity n with
    | none => exact .inr ⟨by rw [serveLane_unfit hf]; exact .refl n s, nofun⟩
    | some fit =>
      by_cases hv : (s.lane n).g < s.candidate n T fit
      · have queued := (h.lane n).aimed.target.2 (by rw [hT]; nofun)
        obtain ⟨state, judged⟩ := unheld_lane h queued unheld
        refine .inl ⟨T, fit, rfl, rfl, hv, ?_⟩
        rw [serveLane_raises hT hf hv]
        exact raisedTo_raiseToward hT queued state judged
      · refine .inr ⟨serveLane_left hT hf (not_lt.1 hv), fun T' fit' e e' => ?_⟩
        cases e
        cases e'
        exact not_lt.1 hv

end

end Sys2Proof.Machine
end

section
/-! PROOF. The walk of the grant queue (R76): what it keeps, what it does at one entry, and the stamps it gives in the order
of the queue (R48, R65). -/

namespace Sys2Proof.Machine

/-! ## One entry -/

/-- Service at one entry: held entries and lanes lowered in the evaluation are passed over (R76). -/
def State.serveEntry (capacity : Nat) (lowered : List LaneId) (s : State) (n : LaneId) : State :=
  if s.held n || lowered.contains n then s else s.serveLane capacity n

theorem serve_eq_foldl (capacity : Nat) (lowered ns : List LaneId) (s : State) :
    State.serve capacity lowered ns s = ns.foldl (State.serveEntry capacity lowered) s := by
  induction ns generalizing s with
  | nil => rfl
  | cons n ns ih =>
    rw [State.serve, List.foldl_cons, ← ih]
    rfl

/-- What service keeps and what it may do to the loads: they grow within the capacity. -/
structure Serves (capacity : Nat) (s t : State) : Prop where
  sound : Sound t
  quiet : Quiet s t
  loads : ∀ n, s.laneLoad n ≤ t.laneLoad n
  fits : s.totalLoad ≤ capacity → t.totalLoad ≤ capacity
  reached : ∀ n : LaneId, s.attention.sets.grantReached &&& n.bit ≠ 0 → t.attention.sets.grantReached &&& n.bit ≠ 0

/-- Nothing told GRANT_REACHED is lost. -/
def KeepsReached (s t : State) : Prop :=
  ∀ n : LaneId, s.attention.sets.grantReached &&& n.bit ≠ 0 → t.attention.sets.grantReached &&& n.bit ≠ 0

theorem keepsReached_service : ServiceRelation (fun _ => True) KeepsReached where
  refl _ _ := id
  trans h h' n := h' n ∘ h n
  settle _ _ _ _ := id
  raise _ _ _ _ _ _ := id
  removeTarget _ _ _ _ := id
  reached _ _ _ _ h := (or_bit_and_ne_zero ..).2 (.inl h)
  lead _ _ _ _ _ := id

theorem Serves.refl {capacity : Nat} {s : State} (h : Sound s) : Serves capacity s s :=
  ⟨h, .refl s, fun _ => Nat.le_refl _, id, fun _ => id⟩

theorem Serves.trans {capacity : Nat} {s t u : State} (h : Serves capacity s t) (h' : Serves capacity t u) :
    Serves capacity s u :=
  ⟨h'.sound, h.quiet.trans h'.quiet, fun n => (h.loads n).trans (h'.loads n), h'.fits ∘ h.fits,
    fun n => h'.reached n ∘ h.reached n⟩

theorem candidate_le_fit (s : State) (n : LaneId) (T fit : Nat) : s.candidate n T fit ≤ fit :=
  (Nat.min_le_right _ _).trans ((Nat.min_le_right _ _).trans (Nat.min_le_right _ _))

section
variable {s : State} (h : Sound s) {n : LaneId}
include h

theorem Sound.validProfile {p : Profile} (hp : s.profileOf n = some p) : ValidFields p.toProfileFields :=
  (h.grid.profiles p (profileOf_mem hp)).toValidFields

/-- A raise within the fitting speed keeps the load within the capacity (R38, R40, R76). -/
theorem serves_loads (unheld : s.held n = false) (capacity : Nat) :
    (∀ m, s.laneLoad m ≤ (s.serveLane capacity n).laneLoad m) ∧
      (s.totalLoad ≤ capacity → (s.serveLane capacity n).totalLoad ≤ capacity) := by
  have quiet : Quiet s (s.serveLane capacity n) := quiet_service.serveLane s capacity trivial
  have others (m : LaneId) (hm : m ≠ n) : (s.serveLane capacity n).laneLoad m = s.laneLoad m :=
    (((besides_service m).serveLane s capacity (Ne.symm hm)).alike quiet).laneLoad
  have whole := besideLoad_eq others
  rcases serveLane_cases h unheld capacity with ⟨T, fit, hT, hf, hv, raised⟩ | ⟨left, -⟩
  · have queued := (h.lane n).aimed.target.2 (by rw [hT]; nofun)
    obtain ⟨-, judged⟩ := unheld_lane h queued unheld
    obtain ⟨p, hp, fits⟩ := fittingSpeed_some hf
    have before : s.laneLoad n = s.loadAt n (s.lane n).g := by
      rw [laneLoad_moving ((h.lane n).aimed.moving queued), judged, if_neg Bool.false_ne_true]
    have within := loadAt_le_budget (h.validProfile hp) fits (candidate_le_fit s n T fit)
    rw [← loadAt_profile hp, ← raised.load] at within
    refine ⟨fun m => ?_, fun _ => ?_⟩
    · by_cases hm : m = n
      · subst hm
        rw [before, raised.load]
        exact stateLoadAt_mono s m hv.le
      · exact (others m hm).ge
    · unfold State.budget at within
      omega
  · have loads (m : LaneId) : (s.serveLane capacity n).laneLoad m = s.laneLoad m := by
      by_cases hm : m = n
      · rw [hm, left.load]
      · exact others m hm
    exact ⟨fun m => (loads m).ge, fun fits => (totalLoad_eq loads).le.trans fits⟩

variable (capacity : Nat) (lowered : List LaneId)

theorem serves_serveEntry (n : LaneId) : Serves capacity s (s.serveEntry capacity lowered n) := by
  unfold State.serveEntry
  split
  · exact .refl h
  next hn =>
    have unheld : s.held n = false := by simp_all
    obtain ⟨loads, fits⟩ := serves_loads h unheld capacity
    exact ⟨h.serveLane capacity unheld, quiet_service.serveLane s capacity trivial, loads, fits,
      keepsReached_service.serveLane s capacity trivial⟩

omit h in
theorem besides_serveEntry {m : LaneId} (hm : m ≠ n) : Besides n s (s.serveEntry capacity lowered m) := by
  unfold State.serveEntry
  split
  · exact .refl n s
  · exact (besides_service n).serveLane s capacity hm

/-! ## The walk -/

theorem serves_walk (ns : List LaneId) : Serves capacity s (ns.foldl (State.serveEntry capacity lowered) s) :=
  foldl_keeps (P := Serves capacity s) (fun _ n ht => ht.trans (serves_serveEntry ht.sound capacity lowered n)) _
    (.refl h)

omit h in
theorem besides_walk {ns : List LaneId} (hn : n ∉ ns) :
    Besides n s (ns.foldl (State.serveEntry capacity lowered) s) := by
  induction ns generalizing s with
  | nil => exact .refl n s
  | cons m ns ih =>
    obtain ⟨hm, hns⟩ := not_or.1 (List.mem_cons.not.1 hn)
    exact (besides_serveEntry capacity lowered (Ne.symm hm)).trans (ih hns)

/-- The walk serves a lane once, as it was before the walk, and leaves it so. -/
theorem walk_at {ns : List LaneId} (nodup : ns.Nodup) (hn : n ∈ ns) : ∃ u, Serves capacity s u ∧ Besides n s u ∧
    Serves capacity (u.serveEntry capacity lowered n) (ns.foldl (State.serveEntry capacity lowered) s) ∧
    Besides n (u.serveEntry capacity lowered n) (ns.foldl (State.serveEntry capacity lowered) s) := by
  obtain ⟨u, before, after⟩ := walk_apart (n := n) (op := State.serveEntry capacity lowered)
    (R := fun s t => Sound s → Serves capacity s t ∧ Besides n s t) (fun s hs => ⟨.refl hs, .refl n s⟩)
    (fun h h' hs => ⟨(h hs).1.trans (h' (h hs).1.sound).1, (h hs).2.trans (h' (h hs).1.sound).2⟩)
    (fun t m hm ht => ⟨serves_serveEntry ht capacity lowered m, besides_serveEntry capacity lowered hm⟩) nodup hn s
  obtain ⟨served, beside⟩ := before h
  obtain ⟨served', beside'⟩ := after (serves_serveEntry served.sound capacity lowered n).sound
  exact ⟨u, served, beside, served', beside'⟩

end

section
variable {s : State} {n : LaneId} {capacity : Nat} {lowered : List LaneId}

theorem serveEntry_passed (h : s.held n = true ∨ n ∈ lowered) : s.serveEntry capacity lowered n = s :=
  if_pos (by rcases h with h | h <;> simp [h])

theorem serveEntry_served (unheld : s.held n = false) (spared : n ∉ lowered) :
    s.serveEntry capacity lowered n = s.serveLane capacity n := if_neg (by simp [unheld, spared])

/-- An entry is raised, where no hold keeps it and its lane has not been lowered, or is left. -/
theorem serveEntry_cases (h : Sound s) (n : LaneId) (capacity : Nat) (lowered : List LaneId) :
    (s.held n = false ∧ n ∉ lowered ∧ ∃ T fit, (s.lane n).target = some T ∧ s.fittingSpeed capacity n = some fit ∧
      (s.lane n).g < s.candidate n T fit ∧
      RaisedTo n s (s.serveEntry capacity lowered n) (s.candidate n T fit) T) ∨
    LeftAt n s (s.serveEntry capacity lowered n) := by
  by_cases passed : s.held n = true ∨ n ∈ lowered
  · rw [serveEntry_passed passed]
    exact .inr (.refl n s)
  · obtain ⟨unheld, spared⟩ := not_or.1 passed
    rw [Bool.not_eq_true] at unheld
    rw [serveEntry_served unheld spared]
    exact (serveLane_cases h unheld capacity).imp (fun raised => ⟨unheld, spared, raised⟩) And.left

end

/-! ## Stamps in the order of the queue -/

/-- The lanes of a list whose granted speed is higher after than before. -/
def raisedLanes (s t : State) (ns : List LaneId) : List LaneId := ns.filter fun n => (s.lane n).g < (t.lane n).g

/-- The counter of stamps steps once for each raise, and the lanes raised take its values in the order of the list. -/
theorem walk_stamps {ns : List LaneId} (nodup : ns.Nodup) {s : State} (h : Sound s) (capacity : Nat)
    (lowered : List LaneId) {t : State} (ht : t = ns.foldl (State.serveEntry capacity lowered) s) :
    t.arbiter.stamp = s.arbiter.stamp + BitVec.ofNat 16 (raisedLanes s t ns).length ∧
      ∀ k n, (raisedLanes s t ns)[k]? = some n → (t.lane n).stamp = s.arbiter.stamp + BitVec.ofNat 16 (k + 1) := by
  induction ns generalizing s with
  | nil => subst ht; exact ⟨by simp [raisedLanes], nofun⟩
  | cons n ns ih =>
    obtain ⟨apart, nodup⟩ := List.nodup_cons.1 nodup
    rw [List.foldl_cons] at ht
    have served := serves_serveEntry h capacity lowered n
    have entry := serveEntry_cases h n capacity lowered
    have lane : t.lane n = (s.serveEntry capacity lowered n).lane n :=
      ht ▸ (besides_walk capacity lowered apart).lane
    have same : raisedLanes (s.serveEntry capacity lowered n) t ns = raisedLanes s t ns :=
      List.filter_congr fun m hm => by
        rw [(besides_serveEntry (s := s) capacity lowered (show n ≠ m from fun e => apart (e ▸ hm))).lane]
    obtain ⟨counter, stamps⟩ := ih nodup served.sound ht
    rw [same] at counter stamps
    generalize s.serveEntry capacity lowered n = w at *
    rcases entry with ⟨-, -, T, fit, -, -, hv, raised⟩ | left
    · have first : raisedLanes s t (n :: ns) = n :: raisedLanes s t ns :=
        List.filter_cons_of_pos (by rw [lane, raised.g]; exact decide_eq_true hv)
      have next (k : Nat) : w.arbiter.stamp + BitVec.ofNat 16 k = s.arbiter.stamp + BitVec.ofNat 16 (k + 1) := by
        rw [raised.counter]
        bv_omega
      rw [first]
      refine ⟨by rw [counter, next, List.length_cons], fun k m hk => ?_⟩
      cases k with
      | zero =>
        cases Option.some.inj hk
        rw [lane, raised.stamp]
        rfl
      | succ k => rw [stamps k m hk, next]
    · have first : raisedLanes s t (n :: ns) = raisedLanes s t ns :=
        List.filter_cons_of_neg (by rw [lane, left.g]; simp)
      rw [first, ← left.arbiter]
      exact ⟨counter, stamps⟩

end Sys2Proof.Machine
end

section
/-! PROOF. The stages of an evaluation that lower lanes (R71, R72, R74, R75): what they leave for service, and the
SAFE_HOLD that an overload ends in (R72, R94). -/

namespace Sys2Proof.Machine

/-! ## Stages that lower -/

/-- A stage that lowers lanes and lists them: the others keep their records but for their hot-web counts, and no load
grows. -/
structure Lowers (r r' : State × List LaneId) : Prop where
  sound : Sound r'.1
  readings : r'.1.readings = r.1.readings
  profiles : r'.1.profiles = r.1.profiles
  cal : r'.1.cal = r.1.cal
  dryer : r'.1.dryer = r.1.dryer
  queue : r'.1.arbiter.queue = r.1.arbiter.queue
  counter : r'.1.arbiter.stamp = r.1.arbiter.stamp
  listed : ∀ n ∈ r.2, n ∈ r'.2
  spared : ∀ n, n ∉ r'.2 → r'.1.lane n = { r.1.lane n with hotWeb := (r'.1.lane n).hotWeb }
  g : ∀ n, (r'.1.lane n).g ≤ (r.1.lane n).g
  stamp : ∀ n, (r'.1.lane n).stamp = (r.1.lane n).stamp
  loads : ∀ n, r'.1.laneLoad n ≤ r.1.laneLoad n

theorem Lowers.refl {r : State × List LaneId} (h : Sound r.1) : Lowers r r :=
  ⟨h, rfl, rfl, rfl, rfl, rfl, rfl, fun _ => id, fun _ _ => rfl, fun _ => Nat.le_refl _, fun _ => rfl,
    fun _ => Nat.le_refl _⟩

theorem Lowers.trans {r r' r'' : State × List LaneId} (h : Lowers r r') (h' : Lowers r' r'') : Lowers r r'' where
  sound := h'.sound
  readings := h'.readings.trans h.readings
  profiles := h'.profiles.trans h.profiles
  cal := h'.cal.trans h.cal
  dryer := h'.dryer.trans h.dryer
  queue := h'.queue.trans h.queue
  counter := h'.counter.trans h.counter
  listed n hn := h'.listed n (h.listed n hn)
  spared n hn := by rw [h'.spared n hn, h.spared n fun e => hn (h'.listed n e)]
  g n := (h'.g n).trans (h.g n)
  stamp n := (h'.stamp n).trans (h.stamp n)
  loads n := (h'.loads n).trans (h.loads n)

theorem Lowers.alike {r r' : State × List LaneId} (h : Lowers r r') {n : LaneId} (hn : n ∉ r'.2) : Alike n r.1 r'.1 :=
  ⟨h.spared n hn, by rw [h.queue], h.readings, h.profiles, h.cal⟩

section
variable {s : State} {n : LaneId}

/-- A lane that moves on at a lower speed brings no more load: its granted speed falls, its measured speed stays. -/
theorem laneLoad_decrease_le (moving : (s.lane n).state.moving = true) {g : Nat} (hg : g ≤ (s.lane n).g) (m : LaneId) :
    (s.decrease n g).laneLoad m ≤ s.laneLoad m := by
  by_cases hm : m = n
  · subst hm
    obtain ⟨b, lane⟩ := lane_decrease_same s m g
    have steady := (steady_decreased (s.lane m) g s.cal.values.crawl s.graceMs).trans (steady_judged _ b)
    have after : ((s.decrease m g).lane m).state.moving = true := by
      rw [lane, Lane.judged_moving, Lane.decreased_moving, moving]
    have profile : (s.decrease m g).profileOf m = s.profileOf m := by
      unfold State.profileOf
      rw [lane, steady.key]
      rfl
    have load (u : Nat) : (s.decrease m g).loadAt m u = s.loadAt m u := by unfold State.loadAt; rw [profile]
    rw [laneLoad_moving after, laneLoad_moving moving, load, State.decrease_g, lane, steady.overspeed, steady.measured]
    split
    · exact Nat.le_refl _
    · exact stateLoadAt_mono s m hg
  · have same := State.lane_decrease_other s g hm
    exact (laneLoad_same (s := s) (t := s.decrease n g) (by rw [same]; exact .refl _) (by rw [same]) rfl).le

theorem Sound.moving_of_pos (h : Sound s) (hg : 0 < (s.lane n).g) : (s.lane n).state.moving = true := by
  by_contra hm
  rw [Bool.not_eq_true] at hm
  exact absurd ((h.lane n).paced.stopped hm) hg.ne'

/-- A lane lowered with a cause told for it, and listed. -/
theorem lowers_lowering (h : Sound s) (lowered : List LaneId) (moving : (s.lane n).state.moving = true) {g : Nat}
    (hg : g ≤ (s.lane n).g) (hm : g % 5 = 0) (c : Cause) :
    Lowers (s, lowered) ((s.decrease n g).latchLane c n, n :: lowered) := by
  obtain ⟨b, lane⟩ := lane_decrease_same s n g
  have other {m : LaneId} (hm : m ≠ n) : ((s.decrease n g).latchLane c n).lane m = s.lane m :=
    State.lane_decrease_other s g hm
  refine ⟨(SoundAs.decrease h n hg hm).latchLane c n, rfl, rfl, rfl, rfl, rfl, rfl,
    fun m => List.mem_cons_of_mem n, fun m hm => ?_, fun m => ?_, fun m => ?_, laneLoad_decrease_le moving hg⟩
  · rw [other fun e => hm (e ▸ List.mem_cons_self)]
  · by_cases e : m = n
    · subst e
      exact (State.decrease_g s m g).le.trans hg
    · rw [other e]
  · by_cases e : m = n
    · subst e
      show ((s.decrease m g).lane m).stamp = (s.lane m).stamp
      rw [lane, Lane.judged_stamp, (steady_decreased ..).stamp]
    · rw [other e]

theorem lowers_count (h : Sound s) (lowered : List LaneId) {k : Nat} (hk : k ≤ 9) (running : (s.lane n).state = .running) :
    Lowers (s, lowered) (s.modLane n fun l => { l with hotWeb := k }, lowered) := by
  have lane (m : LaneId) : (s.modLane n fun l => { l with hotWeb := k }).lane m =
      { s.lane m with hotWeb := ((s.modLane n fun l => { l with hotWeb := k }).lane m).hotWeb } := by
    by_cases e : m = n
    · subst e; rw [State.lane_modLane_same]
    · rw [State.lane_modLane_other _ _ e]
  refine ⟨h.recount hk running, rfl, rfl, rfl, rfl, rfl, rfl, fun _ => id, fun m _ => lane m, fun m => ?_, fun m => ?_,
    fun m => (laneLoad_same (s := s) (t := s.modLane n _) ?_ ?_ rfl).le⟩ <;> rw [lane]
  exact ⟨rfl, rfl, rfl, rfl, rfl, rfl⟩

end

/-! ## The stages -/

/-- Withdrawal at one lane of its order (R71): nothing where the load fits, or where the lane would not come down. -/
def State.withdrawEntry (capacity : Nat) (r : State × List LaneId) (n : LaneId) : State × List LaneId :=
  if r.1.totalLoad ≤ capacity then r
  else if r.1.withdrawSpeed capacity n < (r.1.lane n).g then
    (r.1.withdrawTo n (r.1.withdrawSpeed capacity n), n :: r.2)
  else r

theorem withdraw_eq_foldl (capacity : Nat) (ns : List LaneId) (r : State × List LaneId) :
    State.withdraw capacity ns r = ns.foldl (State.withdrawEntry capacity) r := by
  induction ns generalizing r with
  | nil => rfl
  | cons n ns ih =>
    rw [List.foldl_cons, ← ih]
    by_cases fits : r.1.totalLoad ≤ capacity
    · rw [show State.withdrawEntry capacity r n = r from if_pos fits, withdraw_of_fits fits, withdraw_of_fits fits]
    · unfold State.withdrawEntry
      rw [if_neg fits]
      refine (if_neg fits).trans ?_
      dsimp only
      split <;> rfl

section
variable {s : State} (h : Sound s) (lowered : List LaneId)
include h

theorem lowers_withdrawEntry (capacity : Nat) (n : LaneId) :
    Lowers (s, lowered) (State.withdrawEntry capacity (s, lowered) n) := by
  unfold State.withdrawEntry
  dsimp only
  split
  · exact .refl h
  · split
    next hlt =>
      exact lowers_lowering h lowered (h.moving_of_pos (by omega)) hlt.le
        (h.grid.withdrawSpeed_mod capacity (h.lane n).paced.step) _
    next => exact .refl h

theorem lowers_withdraw (capacity : Nat) (ns : List LaneId) :
    Lowers (s, lowered) (State.withdraw capacity ns (s, lowered)) := by
  rw [withdraw_eq_foldl]
  exact foldl_keeps (P := Lowers (s, lowered)) (fun r n hr => hr.trans (lowers_withdrawEntry hr.sound r.2 capacity n)) _
    (.refl h)

theorem lowers_analyzerStep : Lowers (s, lowered) (State.analyzerStep (s, lowered)) := by
  unfold State.analyzerStep
  dsimp only
  split
  · have used := h.excess (Nat.zero_le 2)
    have start : Lowers (s, lowered) ({ s with arbiter := { s.arbiter with excess := 0 } }, lowered) :=
      ⟨used, rfl, rfl, rfl, rfl, rfl, rfl, fun _ => id, fun _ _ => rfl, fun _ => Nat.le_refl _, fun _ => rfl,
        fun _ => Nat.le_refl _⟩
    split
    next m _ e =>
      have first := (head_runningByStamp _ m).1 (by rw [e]; rfl)
      obtain ⟨le, mod⟩ := used.stepDown first.1
      exact start.trans (lowers_lowering used lowered (by rw [first.1]; rfl) le mod _)
    next => exact start
  · exact .refl h

theorem lowers_hotWebStep (n : LaneId) : Lowers (s, lowered) (State.hotWebStep (s, lowered) n) := by
  unfold State.hotWebStep
  dsimp only
  split
  next running =>
    split
    · have zero := lowers_count h lowered (Nat.zero_le 9) running
      have running' : ((s.modLane n fun l => { l with hotWeb := 0 }).lane n).state = .running := by
        rw [State.lane_modLane_same]; exact running
      obtain ⟨le, mod⟩ := zero.sound.stepDown running'
      exact zero.trans (lowers_lowering zero.sound lowered (by rw [running']; rfl) le mod _)
    next hk => exact lowers_count h lowered (Nat.le_of_lt_succ (Nat.lt_of_not_le hk)) running
  next => exact .refl h

theorem lowers_hotWebSteps (ns : List LaneId) : Lowers (s, lowered) (ns.foldl State.hotWebStep (s, lowered)) :=
  foldl_keeps (P := Lowers (s, lowered)) (fun r n hr => hr.trans (lowers_hotWebStep hr.sound r.2 n)) _ (.refl h)

end

/-! ## The overload -/

/-- The stamps of the lanes and their counter are as they were. -/
def KeepsStamps (s t : State) : Prop := t.arbiter.stamp = s.arbiter.stamp ∧ ∀ n, (t.lane n).stamp = (s.lane n).stamp

theorem KeepsStamps.trans {s t u : State} (h : KeepsStamps s t) (h' : KeepsStamps t u) : KeepsStamps s u :=
  ⟨h'.1.trans h.1, fun n => (h'.2 n).trans (h.2 n)⟩

theorem keepsStamps_stopLane (s : State) (n : LaneId) (state : LaneState) (graceMs : Nat) :
    KeepsStamps s (s.stopLane n state graceMs) := by
  refine ⟨rfl, fun m => ?_⟩
  unfold State.stopLane
  by_cases e : m = n
  · subst e
    rw [State.lane_settle_same, Lane.judged_stamp, State.lane_modLane_same]
    show ((s.removeTarget m).lane m).stamp = (s.lane m).stamp
    rw [State.lane_removeTarget_same]
    rfl
  · rw [State.lane_settle_other _ e, State.lane_modLane_other _ _ e, State.lane_removeTarget_other _ e]

theorem keepsStamps_suspendWhere (s : State) (test : LaneState → Bool) : KeepsStamps s (s.suspendWhere test) := by
  refine foldl_keeps (P := KeepsStamps s) (fun t n ht => ?_) LaneId.all ⟨rfl, fun _ => rfl⟩
  split
  · exact ht.trans (keepsStamps_stopLane ..)
  · exact ht

/-- The end of an overload (R72, R94): the dryer in SAFE_HOLD with every lane at rest, nothing queued, no stamp
given. -/
structure Overloaded (s t : State) : Prop where
  state : t.dryer.state = .safeHold
  cause : t.dryer.lastCause = some .overload
  queue : t.arbiter.queue = []
  latched : t.attention.isLatched .safeHold = true
  g : ∀ n, (t.lane n).g = 0
  stamps : KeepsStamps s t

theorem overloaded_enterSafeHold {s : State} (h : Sound s) : Overloaded s (s.enterSafeHold .overload) := by
  unfold State.enterSafeHold
  rw [latch_safeHold]
  dsimp only
  set u : State := { s.enterDryer .safeHold with
    dryer := { (s.enterDryer .safeHold).dryer with lastCause := some .overload }
    attention := { s.attention with latched := s.attention.latched ||| 2 }
    horn := ⟨none, true⟩ } with hu
  have begun : KeepsAllBut [.dryer, .exhaust, .attention, .horn] s u :=
    ⟨fun p hp => by cases p <;> first | rfl | simp at hp, rfl⟩
  have dryer : u.dryer.state = .safeHold ∧ u.dryer.lastCause = some .overload := ⟨rfl, rfl⟩
  have told : u.attention.isLatched .safeHold = true := by
    show ({ s.attention with latched := s.attention.latched ||| 2 } : Attention).isLatched .safeHold = true
    have on : (s.attention.latch .safeHold).isLatched .safeHold = true := by simp [Attention.isLatched_latch]
    exact on
  have stamps : KeepsStamps s u := ⟨rfl, fun _ => rfl⟩
  show Overloaded s (u.suspendWhere LaneState.moving)
  clear_value u
  have stamps := stamps.trans (keepsStamps_suspendWhere u LaneState.moving)
  obtain ⟨stopped, passed, arbiter, after, -⟩ := suspendsAfter begun LaneState.moving
  generalize u.suspendWhere LaneState.moving = t at *
  have dryer' : t.dryer = u.dryer := after.1 .dryer (by decide)
  have told' : t.attention = u.attention := after.1 .attention (by decide)
  refine ⟨by rw [dryer', dryer.1], by rw [dryer', dryer.2], ?_, by rw [told', told], fun n => ?_, stamps⟩
  · rw [arbiter]
    refine List.filter_eq_nil_iff.2 fun n hn => ?_
    rw [(h.lane n).aimed.moving hn]
    simp
  · cases moving : (s.lane n).state.moving with
    | true => exact (stopped n moving).g
    | false => rw [passed n moving]; exact (h.lane n).paced.stopped moving

theorem overloaded_overload {s : State} (h : Sound s) (hd : s.dryer.state = .heating) : Overloaded s s.overload := by
  unfold State.overload
  set lower := fun (t : State) (n : LaneId) =>
    if (t.lane n).state = .running then t.withdrawTo n t.cal.values.crawl else t with hl
  have lowered : Sound (LaneId.all.foldl lower s) ∧ Quiet s (LaneId.all.foldl lower s) ∧
      KeepsStamps s (LaneId.all.foldl lower s) := by
    refine foldl_keeps (P := fun t => Sound t ∧ Quiet s t ∧ KeepsStamps s t) (fun t n ⟨sound, quiet, stamps⟩ => ?_) _
      ⟨h, .refl s, rfl, fun _ => rfl⟩
    rw [hl]
    dsimp only
    split
    next hr =>
      have low := lowers_lowering sound [] (by rw [hr]; rfl) ((sound.lane n).paced.running hr).le sound.grid.crawl.2
        .withdrawn
      exact ⟨low.sound, quiet.trans (quiet_withdrawTo ..), stamps.trans ⟨low.counter, low.stamp⟩⟩
    next => exact ⟨sound, quiet, stamps⟩
  obtain ⟨sound, quiet, stamps⟩ := lowered
  have heating : (LaneId.all.foldl lower s).dryer.state = .heating := by rw [quiet.dryer, hd]
  rw [State.requestSafeHold, if_pos (.inr heating)]
  obtain ⟨state, cause, queue, latched, g, stamps'⟩ := overloaded_enterSafeHold sound
  exact ⟨state, cause, queue, latched, g, stamps.trans stamps'⟩

end Sys2Proof.Machine
end

section
/-! PROOF. An evaluation from a state of the laws, whichever lanes it lowers (R69 to R72, R76): it ends in the service of the
queue, or in an overload. -/

namespace Sys2Proof.Machine

/-! ## The stages in order -/

/-- An evaluation after its withdrawal stage (R71). -/
def State.withdrawn (s : State) : State × List LaneId :=
  State.withdraw s.capacity s.atEvaluation.holdEstimate.runningByStamp (s.atEvaluation.holdEstimate, [])

/-- An evaluation whose withdrawal was enough, after its analyzer step and its hot-web steps (R74, R75). -/
def State.lowered (s : State) : State × List LaneId := LaneId.all.foldl State.hotWebStep (State.analyzerStep s.withdrawn)

theorem evaluate_stages (s : State) : s.atEvaluation.evaluate =
    if s.capacity < s.withdrawn.1.totalLoad then s.withdrawn.1.overload
    else State.serviceStage s.capacity s.lowered := rfl

section
variable {s : State} (h : Sound s)
include h

theorem lowers_began : Lowers (s, []) (s.atEvaluation.holdEstimate, []) := by
  have began : Sound s.atEvaluation := SoundAs.beside h rfl rfl rfl rfl rfl
    ⟨h.counts.peak, h.counts.excess, h.counts.zeroRun, h.counts.link, h.counts.mask⟩ h.quiet
  exact ⟨began.holdEstimate, rfl, rfl, rfl, rfl, rfl, rfl, fun _ => id, fun _ _ => rfl, fun _ => Nat.le_refl _,
    fun _ => rfl, fun _ => Nat.le_refl _⟩

theorem lowers_withdrawn : Lowers (s, []) s.withdrawn :=
  (lowers_began h).trans (lowers_withdraw (lowers_began h).sound [] ..)

theorem lowers_lowered : Lowers (s, []) s.lowered := by
  have withdrawn := lowers_withdrawn h
  have analyzed := lowers_analyzerStep withdrawn.sound s.withdrawn.2
  exact withdrawn.trans (analyzed.trans (lowers_hotWebSteps analyzed.sound _ LaneId.all))

theorem lowered_fits (fits : s.withdrawn.1.totalLoad ≤ s.capacity) : s.lowered.1.totalLoad ≤ s.capacity := by
  have withdrawn := lowers_withdrawn h
  have analyzed := lowers_analyzerStep withdrawn.sound s.withdrawn.2
  have heated := lowers_hotWebSteps analyzed.sound (State.analyzerStep s.withdrawn).2 LaneId.all
  exact (totalLoad_mono (analyzed.trans heated).loads).trans fits

/-- The walk of the queue that ends an evaluation (R76). -/
def Serviced (s t : State) : Prop := s.lowered.1.totalLoad ≤ s.capacity ∧
  t = s.arbiter.queue.foldl (State.serveEntry s.capacity s.lowered.2) s.lowered.1

theorem evaluate_cases (hd : s.dryer.state = .heating) :
    s.capacity < s.withdrawn.1.totalLoad ∧ Overloaded s s.atEvaluation.evaluate ∨
    s.withdrawn.1.totalLoad ≤ s.capacity ∧ Serviced s s.atEvaluation.evaluate := by
  have withdrawn := lowers_withdrawn h
  rw [evaluate_stages]
  by_cases exceeds : s.capacity < s.withdrawn.1.totalLoad
  · rw [if_pos exceeds]
    obtain ⟨state, cause, queue, latched, g, stamps⟩ :=
      overloaded_overload withdrawn.sound (by rw [withdrawn.dryer]; exact hd)
    exact .inl ⟨exceeds, state, cause, queue, latched, g, KeepsStamps.trans ⟨withdrawn.counter, withdrawn.stamp⟩ stamps⟩
  · rw [if_neg exceeds]
    have fits := lowered_fits h (not_lt.1 exceeds)
    refine .inr ⟨not_lt.1 exceeds, fits, ?_⟩
    rw [State.serviceStage, if_pos fits, serve_eq_foldl, (lowers_lowered h).queue]

end

/-! ## What service raises (R48, R65, R77) -/

section
variable {s t : State} (h : Sound s) (served : Serviced s t)
include h served

theorem serviced_serves : Serves s.capacity s.lowered.1 t := by
  rw [served.2]
  exact serves_walk (lowers_lowered h).sound ..

/-- Where service meets a queued lane, as the stages before have left it. -/
theorem serviced_at {n : LaneId} (hq : n ∈ s.arbiter.queue) : ∃ u, Serves s.capacity s.lowered.1 u ∧
    Besides n s.lowered.1 u ∧ Serves s.capacity (u.serveEntry s.capacity s.lowered.2 n) t ∧
    Besides n (u.serveEntry s.capacity s.lowered.2 n) t := by
  rw [served.2]
  exact walk_at (lowers_lowered h).sound s.capacity s.lowered.2 h.nodup hq

omit h in
theorem serviced_unqueued {n : LaneId} (hq : n ∉ s.arbiter.queue) : Besides n s.lowered.1 t := by
  rw [served.2]
  exact besides_walk s.capacity s.lowered.2 hq

/-- A lane lowered is passed over (R76). -/
theorem serviced_listed {n : LaneId} (hn : n ∈ s.lowered.2) : Besides n s.lowered.1 t := by
  by_cases hq : n ∈ s.arbiter.queue
  · obtain ⟨u, -, before, -, after⟩ := serviced_at h served hq
    rw [serveEntry_passed (.inr hn)] at after
    exact before.trans after
  · exact serviced_unqueued served hq

/-- A lane neither lowered nor held by any hold is as it was when service meets it. -/
theorem serviced_alike {n : LaneId} (hn : n ∉ s.lowered.2) (passed : n ∉ s.arbiter.queue ∨ s.held n = true) :
    Alike n s t := by
  have low := (lowers_lowered h).alike hn
  rcases passed with hq | held
  · exact low.trans ((serviced_unqueued served hq).alike (serviced_serves h served).quiet)
  · by_cases hq : n ∈ s.arbiter.queue
    · obtain ⟨u, served', before, served'', after⟩ := serviced_at h served hq
      have alike := low.trans (before.alike served'.quiet)
      rw [serveEntry_passed (.inl (alike.held.trans held))] at served'' after
      exact alike.trans (after.alike served''.quiet)
    · exact low.trans ((serviced_unqueued served hq).alike (serviced_serves h served).quiet)

/-- What is known of a lane that an evaluation raised: its entry, its limits, its way to its target (R76, R77). -/
structure RaisedIn (s t : State) (n : LaneId) : Prop where
  queued : n ∈ s.arbiter.queue
  unheld : s.held n = false
  toward : ∃ T fit, (s.lane n).target = some T ∧ (t.lane n).g = s.candidate n T fit ∧
    ((t.lane n).g = T → (t.lane n).target = none ∧ n ∉ t.arbiter.queue ∧
      t.attention.isLatched .grantReached = true ∧ t.attention.sets.grantReached &&& n.bit ≠ 0) ∧
    ((t.lane n).g ≠ T → (t.lane n).target = some T ∧ n ∈ t.arbiter.queue)

/-- Every lane is raised by its queue entry, or its granted speed is not higher and its stamp is as it was. -/
theorem serviced_lane (n : LaneId) : (s.lane n).g < (t.lane n).g ∧ RaisedIn s t n ∨
    (t.lane n).g ≤ (s.lane n).g ∧ (t.lane n).stamp = (s.lane n).stamp := by
  have low := lowers_lowered h
  by_cases hn : n ∈ s.lowered.2
  · have beside := serviced_listed h served hn
    rw [beside.lane]
    exact .inr ⟨low.g n, low.stamp n⟩
  by_cases hq : n ∈ s.arbiter.queue
  case neg =>
    have alike := serviced_alike h served hn (.inl hq)
    exact .inr ⟨alike.g.le, alike.stamp⟩
  obtain ⟨u, served', before, served'', after⟩ := serviced_at h served hq
  have alike := (low.alike hn).trans (before.alike served'.quiet)
  have entry := serveEntry_cases served'.sound n s.capacity s.lowered.2
  generalize u.serveEntry s.capacity s.lowered.2 n = w at *
  rcases entry with ⟨unheld, -, T, fit, hT, -, hv, raised⟩ | left
  · refine .inl ⟨?_, hq, alike.held.symm.trans unheld, T, fit, alike.target.symm.trans hT, ?_, fun e => ?_, fun e => ?_⟩
    · rw [after.lane, raised.g, ← alike.g]; exact hv
    · rw [after.lane, raised.g, alike.candidate]
    · rw [after.lane, raised.g] at e
      obtain ⟨target, gone, latched, told⟩ := raised.reached e
      exact ⟨by rw [after.lane, target], fun hm => gone (after.entry.1 hm), served''.quiet.latched _ latched,
        served''.reached n told⟩
    · rw [after.lane, raised.g] at e
      obtain ⟨target, stays⟩ := raised.below e
      exact ⟨by rw [after.lane, target], after.entry.2 stays⟩
  · refine .inr ⟨?_, ?_⟩
    · rw [after.lane, left.g, alike.g]
    · rw [after.lane, left.stamp, alike.stamp]

/-- The counter of stamps and the stamps of the lanes raised, in the order of the queue (R48, R65). -/
theorem serviced_stamps : t.arbiter.stamp = s.arbiter.stamp + BitVec.ofNat 16 (raisedLanes s t s.arbiter.queue).length ∧
    ∀ k n, (raisedLanes s t s.arbiter.queue)[k]? = some n →
      (t.lane n).stamp = s.arbiter.stamp + BitVec.ofNat 16 (k + 1) := by
  have low := lowers_lowered h
  have stamps := walk_stamps h.nodup low.sound s.capacity s.lowered.2 served.2
  have same : raisedLanes s.lowered.1 t s.arbiter.queue = raisedLanes s t s.arbiter.queue := by
    refine List.filter_congr fun n _ => decide_eq_decide.2 ?_
    by_cases hn : n ∈ s.lowered.2
    · have := low.g n
      have := (serviced_listed h served hn).lane
      exact iff_of_false (by rw [this]; exact lt_irrefl _) (by rw [this]; exact not_lt.2 (low.g n))
    · rw [(low.alike hn).g]
  rw [same, low.counter] at stamps
  exact stamps

end

/-! ## A queue served where nothing is lowered -/

section
variable {s : State} (h : Sound s) (fits : s.totalLoad ≤ s.capacity) (excess : s.arbiter.excess ≠ 2) (cool : NoHotWebStep s)
include h fits excess cool

theorem lowered_none (n : LaneId) : n ∉ s.lowered.2 := by
  have count : s.hotWebCount n < 10 := by
    have := hotWebCount_le (s := s) (n := n)
    have bound := (h.lane n).paced.counts.2.1
    by_cases running : (s.lane n).state = .running
    · by_cases hot : WebTooHot s n
      · have := cool n running hot
        omega
      · have := hotWebCount_le_of_not_hot hot
        omega
    · have := (h.lane n).paced.hotWeb running
      omega
  have first : s.withdrawn = (s.atEvaluation.holdEstimate, []) := withdraw_of_fits (s := s.atEvaluation.holdEstimate) fits ..
  have start : State.analyzerStep s.withdrawn = (s.atEvaluation.holdEstimate, []) := by
    rw [first]
    exact analyzerStep_of_ne excess
  have listed := (hotWebStage_counts (r := (s.atEvaluation.holdEstimate, [])) (n := n) count).2
  rw [← start] at listed
  exact fun hn => by simpa [start] using listed.1 hn

omit excess cool in
theorem serviced_of_fits (hd : s.dryer.state = .heating) : Serviced s s.atEvaluation.evaluate := by
  have first : s.withdrawn = (s.atEvaluation.holdEstimate, []) := withdraw_of_fits (s := s.atEvaluation.holdEstimate) fits ..
  rcases evaluate_cases h hd with ⟨exceeds, -⟩ | ⟨-, served⟩
  · rw [first] at exceeds
    exact absurd fits (not_le.2 exceeds)
  · exact served

theorem lowered_alike (n : LaneId) : Alike n s s.lowered.1 := (lowers_lowered h).alike (lowered_none h fits excess cool n)

theorem lowered_load : s.lowered.1.totalLoad = s.totalLoad := totalLoad_eq fun n => (lowered_alike h fits excess cool n).laneLoad

end

end Sys2Proof.Machine
end

section
/-! PROOF. What an evaluation raises and what it must raise (R48, R65, R66, R76, R77, R78). -/

namespace Sys2Proof.Machine

/-! ## The limits of a raise -/

section
variable (s : State) (n : LaneId) (T fit : Nat)

theorem candidate_eq : s.candidate n T fit = min T (min ((s.lane n).g + s.cal.values.rampStep)
    (min (bandAt (s.bandsOf n) ((s.lane n).heatBand (s.bandsOf n))).bound fit)) := rfl

theorem candidate_le_ramp : s.candidate n T fit ≤ (s.lane n).g + s.cal.values.rampStep :=
  (Nat.min_le_right _ _).trans (Nat.min_le_left _ _)

theorem candidate_le_bound : s.candidate n T fit ≤ (bandAt (s.bandsOf n) ((s.lane n).heatBand (s.bandsOf n))).bound :=
  (Nat.min_le_right _ _).trans ((Nat.min_le_right _ _).trans (Nat.min_le_left _ _))

end

/-- A lane's speed has come to a limit of its entry: its target, its ramp step, the bound of its heat band, or the
capacity, by a budget used up or by the load one step of the grid above. -/
def LimitedAt (s : State) (n : LaneId) (p : Profile) (capacity T v : Nat) : Prop :=
  v = T ∨ v = (s.lane n).g + s.cal.values.rampStep ∨ v = (bandAt p.bands ((s.lane n).heatBand p.bands)).bound ∨
    s.budget capacity n ≤ 0 ∨ s.budget capacity n < (p.loadAt (v + 5) : Int)

section
variable {s : State} (h : Sound s) {n : LaneId} {p : Profile} (hp : s.profileOf n = some p) {T fit : Nat}
  (hT : (s.lane n).target = some T) {capacity : Nat}
include h hp hT

/-- A lane that has come to its fitting speed has come to the capacity, or to its target where it has no load. -/
theorem limited_by_fit (hf : p.fittingSpeed (s.budget capacity n) = some fit) {v : Nat} (hv : v ≤ T) (hfit : fit ≤ v) :
    LimitedAt s n p capacity T v := by
  rcases Nat.eq_zero_or_pos p.arealLoad with areal | areal
  · have top := fittingSpeed_of_no_load areal hf
    obtain ⟨-, -, max⟩ := (h.lane n).aimed.above T hT
    rw [bandsOf_profile hp] at max
    exact .inl (by omega)
  · have short := budget_lt_loadAt (h.validProfile hp) areal hf
    have mono := loadAt_mono p.toProfileFields (Nat.add_le_add_right hfit 5)
    exact .inr (.inr (.inr (.inr (by omega))))

/-- An entry that no hold keeps is served up to one of its limits (R76). -/
theorem served_limited (unheld : s.held n = false) : LimitedAt s n p capacity T ((s.serveLane capacity n).lane n).g := by
  obtain ⟨above, -, -⟩ := (h.lane n).aimed.above T hT
  rcases serveLane_cases h unheld capacity with ⟨T', fit, hT', hf, -, raised⟩ | ⟨left, stays⟩
  · cases hT.symm.trans hT'
    rw [fittingSpeed_profile hp] at hf
    rw [raised.g]
    have capped := candidate_le_target s n T fit
    have least := candidate_eq s n T fit
    rw [bandsOf_profile hp] at least
    by_cases hfit : fit ≤ s.candidate n T fit
    · exact limited_by_fit h hp hT hf capped hfit
    · unfold LimitedAt
      omega
  · rw [left.g]
    cases hf : s.fittingSpeed capacity n with
    | none =>
      rw [fittingSpeed_profile hp] at hf
      exact .inr (.inr (.inr (.inl (fittingSpeed_eq_none.1 hf))))
    | some fit =>
      have low := stays T fit hT hf
      have ramp := h.grid.ramp.1
      have bound := g_le_heatBand (h.grid.bandsLaw n) (h.lane n).paced (h.lane n).aimed
      rw [candidate_eq] at low
      rw [fittingSpeed_profile hp] at hf
      rw [bandsOf_profile hp] at low bound
      by_cases hfit : fit ≤ (s.lane n).g
      · exact limited_by_fit h hp hT hf above.le hfit
      · unfold LimitedAt
        omega

end

/-! ## The first entry that no hold keeps -/

theorem walk_held {capacity : Nat} {lowered ns : List LaneId} {s : State} (held : ∀ m ∈ ns, s.held m = true) :
    ns.foldl (State.serveEntry capacity lowered) s = s := by
  induction ns with
  | nil => rfl
  | cons n ns ih =>
    rw [List.foldl_cons, serveEntry_passed (.inl (held n List.mem_cons_self))]
    exact ih fun m hm => held m (List.mem_cons_of_mem _ hm)

/-- What service makes of the first entry that no hold keeps: a raise to its candidate speed, or its lead where it
stands at the bound of band(g) (R76, R78). -/
structure FirstServed (s t : State) (n : LaneId) (v T : Nat) : Prop where
  g : (t.lane n).g = max (s.lane n).g v
  running : (s.lane n).g < v → (t.lane n).state = .running ∨ v ≤ s.cal.values.crawl
  lead : LeadsAt s n v T → (t.lane n).leadMs = 0 ∧ (t.lane n).target = some T ∧
    (t.lane n).lead = some ⟨bandOf (s.bandsOf n) (s.lane n).g + 1,
      if t.zonesInBand n = some true then .led else .leading⟩

theorem firstServed_serveLane {s : State} (h : Sound s) {n : LaneId} (unheld : s.held n = false) {capacity T fit : Nat}
    (hT : (s.lane n).target = some T) (hf : s.fittingSpeed capacity n = some fit) :
    FirstServed s (s.serveLane capacity n) n (s.candidate n T fit) T := by
  have queued := (h.lane n).aimed.target.2 (by rw [hT]; nofun)
  obtain ⟨state, judged⟩ := unheld_lane h queued unheld
  by_cases hv : (s.lane n).g < s.candidate n T fit
  · rw [serveLane_raises hT hf hv]
    have raised := raisedTo_raiseToward (v := s.candidate n T fit) hT queued state judged
    refine ⟨by rw [raised.g, Nat.max_eq_right hv.le], fun _ => ?_, fun hl => absurd hl.1 hv.ne'⟩
    by_cases hc : s.cal.values.crawl < s.candidate n T fit
    · exact .inl (raised.running hc)
    · exact .inr (not_lt.1 hc)
  · refine ⟨?_, fun hlt => absurd hlt hv, fun hl => ?_⟩
    · rw [(serveLane_left hT hf (not_lt.1 hv)).g, Nat.max_eq_left (not_lt.1 hv)]
    · rw [serveLane_leads hT hf hl]
      have led := ledOn_beginLead s n
      exact ⟨led.leadMs, led.target.trans hT, led.lead⟩

section
variable {s : State} (h : Sound s) (fits : s.totalLoad ≤ s.capacity) (excess : s.arbiter.excess ≠ 2) (cool : NoHotWebStep s)
  {t : State} (served : Serviced s t)
include h fits excess cool served

/-- The first entry that no hold keeps is served as it stands, with the whole budget left (R76). -/
theorem serviced_first {before after : List LaneId} {n : LaneId} (split : s.arbiter.queue = before ++ n :: after)
    (held : ∀ m ∈ before, s.held m = true) (unheld : s.held n = false) :
    Alike n s s.lowered.1 ∧ s.lowered.1.held n = false ∧ s.lowered.1.budget s.capacity n = budgetOf s n ∧
      Alike n (s.lowered.1.serveLane s.capacity n) t ∧
      t.lane n = (s.lowered.1.serveLane s.capacity n).lane n := by
  have alike (m : LaneId) := lowered_alike h fits excess cool m
  have free : s.lowered.1.held n = false := (alike n).held.trans unheld
  have apart : n ∉ after := by
    have nodup := h.nodup
    rw [split] at nodup
    exact (List.nodup_cons.1 (List.nodup_append.1 nodup).2.1).1
  have walk : t = after.foldl (State.serveEntry s.capacity s.lowered.2) (s.lowered.1.serveLane s.capacity n) := by
    rw [served.2, split, List.foldl_append, walk_held fun m hm => (alike m).held.trans (held m hm), List.foldl_cons,
      serveEntry_served free (lowered_none h fits excess cool n)]
  have sound := (lowers_lowered h).sound
  have entry := serves_walk (sound.serveLane s.capacity free) s.capacity s.lowered.2 after
  have beside := besides_walk (s := s.lowered.1.serveLane s.capacity n) s.capacity s.lowered.2 apart
  rw [← walk] at entry beside
  refine ⟨alike n, free, ?_, beside.alike entry.quiet, beside.lane⟩
  rw [State.budget, lowered_load h fits excess cool, (alike n).laneLoad]
  rfl

end

/-- No entry without a hold is left below a speed at which it has a limit, the others loading the capacity as they do at
the end (R76). -/
theorem serviced_limited {s t : State} (h : Sound s) (served : Serviced s t) {n : LaneId} (hn : n ∉ s.lowered.2)
    (hq : n ∈ s.arbiter.queue) (unheld : s.held n = false) {T : Nat} (hT : (s.lane n).target = some T) {p : Profile}
    (hp : s.profileOf n = some p) :
    (t.lane n).g = T ∨ (t.lane n).g = (s.lane n).g + s.cal.values.rampStep ∨
    (t.lane n).g = (bandAt p.bands ((s.lane n).heatBand p.bands)).bound ∨
    (s.capacity : Int) ≤ (t.totalLoad : Int) - (t.laneLoad n : Int) ∨
    (s.capacity : Int) < (t.totalLoad : Int) - (t.laneLoad n : Int) + (p.loadAt ((t.lane n).g + 5) : Int) := by
  obtain ⟨u, served', before, served'', after⟩ := serviced_at h served hq
  have alike : Alike n s u := ((lowers_lowered h).alike hn).trans (before.alike served'.quiet)
  have free := alike.held.trans unheld
  have limited := served_limited served'.sound (alike.profileOf.trans hp) (alike.target.trans hT) (capacity := s.capacity)
    free
  have beside := besideLoad_mono (n := n) fun m _ => (serves_serveEntry served'.sound s.capacity s.lowered.2 n).loads m |>.trans
    (served''.loads m)
  rw [serveEntry_served free hn] at after
  rw [← after.lane] at limited
  unfold LimitedAt State.budget at limited
  rw [alike.g, alike.cal, alike.heatBand] at limited
  omega

/-! ## The obligation -/

/-- What a raise in an evaluation obeys: its limits, and its target reached or kept (R76, R77). -/
theorem RaisedIn.limits {s t : State} {n : LaneId} (r : RaisedIn s t n) :
    n ∈ s.arbiter.queue ∧ s.held n = false ∧ (t.lane n).g ≤ (s.lane n).g + s.cal.values.rampStep ∧
    (t.lane n).g ≤ (bandAt (s.bandsOf n) ((s.lane n).heatBand (s.bandsOf n))).bound ∧
    ∃ T, (s.lane n).target = some T ∧ (t.lane n).g ≤ T ∧
      ((t.lane n).g = T → (t.lane n).target = none ∧ n ∉ t.arbiter.queue ∧
        t.attention.isLatched .grantReached = true ∧ t.attention.sets.grantReached &&& n.bit ≠ 0) ∧
      ((t.lane n).g < T → (t.lane n).target = some T ∧ n ∈ t.arbiter.queue) := by
  obtain ⟨queued, unheld, T, fit, hT, g, reached, below⟩ := r
  refine ⟨queued, unheld, ?_, ?_, T, hT, ?_, reached, fun hlt => below hlt.ne⟩ <;> rw [g]
  · exact candidate_le_ramp s n T fit
  · exact candidate_le_bound s n T fit
  · exact candidate_le_target s n T fit

/-- An overload raises no lane and gives no stamp. -/
theorem Overloaded.none_raised {s t : State} (o : Overloaded s t) (n : LaneId) : ¬(s.lane n).g < (t.lane n).g := by
  rw [o.g n]
  exact Nat.not_lt_zero _

theorem raisedLanes_none {s t : State} (none : ∀ n, ¬(s.lane n).g < (t.lane n).g) (ns : List LaneId) :
    raisedLanes s t ns = [] := List.filter_eq_nil_iff.2 fun n _ => by simpa using none n

/-- Settles O18: service meets each entry once, as the stages before left it, and raises it to its candidate speed; the
counter of stamps is followed along the queue. -/
theorem raiseOnlyUnheld : Obligations.RaiseOnlyUnheld := by
  refine ⟨fun s t e l hp hd => ?_, fun s l hp hd fits excess cool => ⟨_, exec_evaluation hp hd, ?_⟩⟩
  · cases Host.Outcome.next.inj ((exec_evaluation hp hd).symm.trans e)
    have h := l.sound
    rcases evaluate_cases h hd with ⟨-, overloaded⟩ | ⟨-, served⟩
    · generalize s.atEvaluation.evaluate = t at overloaded
      have none := overloaded.none_raised
      have empty := raisedLanes_none none s.arbiter.queue
      refine ⟨fun n hn => absurd hn (none n), ?_, fun k n hk => ?_, fun n _ => overloaded.stamps.2 n⟩
      · show t.arbiter.stamp = s.arbiter.stamp + BitVec.ofNat 16 (raisedLanes s t s.arbiter.queue).length
        rw [empty, overloaded.stamps.1]
        exact (BitVec.add_zero _).symm
      · replace hk : (raisedLanes s t s.arbiter.queue)[k]? = some n := hk
        rw [empty] at hk
        cases hk
    · obtain ⟨counter, stamps⟩ := serviced_stamps h served
      have lanes := serviced_lane h served
      generalize s.atEvaluation.evaluate = t at counter stamps lanes
      refine ⟨fun n hn => ?_, counter, stamps, fun n hn => ?_⟩
      · rcases lanes n with ⟨-, raised⟩ | ⟨not, -⟩
        · exact raised.limits
        · exact absurd hn (not_lt.2 not)
      · rcases lanes n with ⟨hlt, -⟩ | ⟨-, stamp⟩
        · exact absurd hlt (not_lt.2 hn)
        · exact stamp
  · have h := l.sound
    have served := serviced_of_fits h fits hd
    have spared := lowered_none h fits excess cool
    have dryer := (evaluate_dryer_excess fits).1
    generalize s.atEvaluation.evaluate = t at served dryer
    refine ⟨dryer, fun n hn => ?_, fun before n after split held unheld T hT p hp => ⟨fun hf => ?_, fun fit hf v hv => ?_⟩,
      fun n hq unheld T hT p hp => serviced_limited h served (spared n) hq unheld hT hp⟩
    · have alike := serviced_alike h served (spared n) hn
      exact ⟨alike.lane, alike.entry⟩
    · obtain ⟨start, free, budget, -, lane⟩ := serviced_first h fits excess cool served split held unheld
      have unfit : s.lowered.1.fittingSpeed s.capacity n = none := by
        rw [fittingSpeed_profile (start.profileOf.trans hp), budget, hf]
      rw [serveLane_unfit unfit] at lane
      exact (congrArg Lane.g lane).trans start.g
    · obtain ⟨start, free, budget, alike, lane⟩ := serviced_first h fits excess cool served split held unheld
      have fitting : s.lowered.1.fittingSpeed s.capacity n = some fit := by
        rw [fittingSpeed_profile (start.profileOf.trans hp), budget, hf]
      obtain ⟨g, running, lead⟩ := firstServed_serveLane (lowers_lowered h).sound free (start.target.trans hT) fitting
      have v_eq : s.lowered.1.candidate n T fit = v := by
        rw [start.candidate, candidate_eq, bandsOf_profile hp, hv]
      unfold LeadsAt at lead
      rw [v_eq, start.bandsOf, start.lead, start.g, bandsOf_profile hp, ← alike.zonesInBand] at lead
      rw [v_eq, start.g] at g running
      rw [start.cal] at running
      rw [← lane] at g running lead
      exact ⟨g, running, fun e none bound below => lead ⟨e, none, bound, below⟩⟩

end Sys2Proof.Machine
end

section
/-! PROOF. Withdrawal in the order of stamps (R65, R71): each RUNNING lane in turn comes down until the load fits. -/

namespace Sys2Proof.Machine

/-! ## The order of withdrawal -/

section
variable (s : State)

theorem insertByStamp_perm (n : LaneId) (ns : List LaneId) : (s.insertByStamp n ns).Perm (n :: ns) := by
  induction ns with
  | nil => exact .refl _
  | cons m ms ih =>
    unfold State.insertByStamp
    split
    · exact .refl _
    · exact (ih.cons m).trans (.swap ..)

theorem pairwise_insertByStamp {n : LaneId} {ns : List LaneId} (hn : n ∉ ns) (h : ns.Pairwise (StandsBefore s)) :
    (s.insertByStamp n ns).Pairwise (StandsBefore s) := by
  induction ns with
  | nil => exact List.pairwise_singleton ..
  | cons m ms ih =>
    obtain ⟨first, rest⟩ := List.pairwise_cons.1 h
    obtain ⟨hm, hms⟩ := not_or.1 (List.mem_cons.not.1 hn)
    simp only [standsBefore_iff] at first
    unfold State.insertByStamp
    split
    next hb =>
      have above := (before_iff s ..).1 hb
      refine List.pairwise_cons.2 ⟨fun k hk => (standsBefore_iff s ..).2 ?_, h⟩
      rcases List.mem_cons.1 hk with rfl | hk
      · exact above
      · exact (first k hk).trans above
    next hb =>
      have below : s.rank n < s.rank m :=
        Nat.lt_of_le_of_ne (Nat.le_of_not_lt fun e => hb ((before_iff s ..).2 e)) fun e => hm (rank_inj s e)
      refine List.pairwise_cons.2 ⟨fun k hk => (standsBefore_iff s ..).2 ?_, ih hms rest⟩
      rcases List.mem_cons.1 ((insertByStamp_perm s n ms).mem_iff.1 hk) with rfl | hk
      · exact below
      · exact first k hk

theorem foldr_insertByStamp (ns : List LaneId) (nodup : ns.Nodup) :
    (ns.foldr s.insertByStamp []).Perm ns ∧ (ns.foldr s.insertByStamp []).Pairwise (StandsBefore s) := by
  induction ns with
  | nil => exact ⟨.refl _, .nil⟩
  | cons n ns ih =>
    obtain ⟨apart, nodup⟩ := List.nodup_cons.1 nodup
    obtain ⟨perm, sorted⟩ := ih nodup
    exact ⟨(insertByStamp_perm s n _).trans (perm.cons n),
      pairwise_insertByStamp s (fun hn => apart (perm.mem_iff.1 hn)) sorted⟩

theorem mem_runningByStamp (n : LaneId) : n ∈ s.runningByStamp ↔ (s.lane n).state = .running := by
  have perm := (foldr_insertByStamp s _ (LaneId.nodup_all.filter fun n => (s.lane n).state == .running)).1
  rw [State.runningByStamp, perm.mem_iff]
  simp [LaneId.mem_all]

theorem pairwise_runningByStamp : s.runningByStamp.Pairwise (StandsBefore s) :=
  (foldr_insertByStamp s _ (LaneId.nodup_all.filter _)).2

theorem StandsBefore.asymm {s : State} {m n : LaneId} (h : StandsBefore s m n) : ¬StandsBefore s n m := by
  rw [standsBefore_iff] at *
  exact h.asymm

end

/-! ## One lane withdrawn -/

section
variable {s : State} {n : LaneId} {capacity : Nat}

theorem withdrawSpeed_le (s : State) (n : LaneId) (capacity : Nat) : s.withdrawSpeed capacity n ≤ (s.lane n).g :=
  Nat.min_le_left _ _

/-- A RUNNING lane that does not overspeed comes down where the load does not fit; if it still does not fit, the lane is
at crawl (R40, R71). -/
theorem withdrawSpeed_down (h : Sound s) (running : (s.lane n).state = .running) (judged : (s.lane n).overspeed = false)
    (exceeds : capacity < s.totalLoad) : s.withdrawSpeed capacity n < (s.lane n).g ∧
      (capacity < (s.withdrawTo n (s.withdrawSpeed capacity n)).totalLoad →
        s.withdrawSpeed capacity n = s.cal.values.crawl) := by
  have crawl := (h.lane n).paced.running running
  have moving : (s.lane n).state.moving = true := by rw [running]; rfl
  cases hp : s.profileOf n with
  | none =>
    have speed : s.withdrawSpeed capacity n = s.cal.values.crawl := by
      unfold State.withdrawSpeed State.fittingSpeed
      rw [hp]
      show min (s.lane n).g (max s.cal.values.crawl 0) = s.cal.values.crawl
      omega
    exact ⟨by rw [speed]; exact crawl, fun _ => speed⟩
  | some p =>
    have valid := h.validProfile hp
    have load : s.laneLoad n = p.loadAt (s.lane n).g := by
      rw [laneLoad_moving moving, judged, if_neg Bool.false_ne_true, loadAt_profile hp]
    have low := fittingSpeed_lt (b := s.budget capacity n) valid (Nat.zero_lt_of_lt crawl)
      (by unfold State.budget; omega)
    have speed : s.withdrawSpeed capacity n =
        max s.cal.values.crawl ((p.fittingSpeed (s.budget capacity n)).getD 0) := by
      unfold State.withdrawSpeed
      rw [fittingSpeed_profile hp]
      omega
    refine ⟨by omega, fun still => ?_⟩
    by_contra fast
    obtain ⟨fit, hf⟩ : ∃ fit, p.fittingSpeed (s.budget capacity n) = some fit := by
      cases hf : p.fittingSpeed (s.budget capacity n) with
      | none => rw [hf] at speed; exact absurd (speed.trans (Nat.max_eq_left (Nat.zero_le _))) fast
      | some fit => exact ⟨fit, rfl⟩
    have fits := loadAt_le_budget valid hf le_rfl
    have reached : s.withdrawSpeed capacity n = fit := by
      rw [hf, Option.getD_some] at speed
      omega
    rw [reached] at still
    obtain ⟨b, lane⟩ := lane_decrease_same s n fit
    have steady := (steady_decreased (s.lane n) fit s.cal.values.crawl s.graceMs).trans (steady_judged _ b)
    rw [← lane] at steady
    have after : (s.decrease n fit).laneLoad n = s.loadAt n fit :=
      laneLoad_granted (by rw [lane, Lane.judged_moving, Lane.decreased_moving, moving]) (steady.overspeed.trans judged)
        (State.decrease_g s n fit) steady.key rfl
    have beside := besideLoad_eq (s := s) (t := s.decrease n fit) (n := n) fun m hm => by
      have same := State.lane_decrease_other s fit hm
      exact laneLoad_same (s := s) (t := s.decrease n fit) (by rw [same]; exact .refl _) (by rw [same]) rfl
    rw [after, loadAt_profile hp] at beside
    have total : (s.withdrawTo n fit).totalLoad = (s.decrease n fit).totalLoad := rfl
    unfold State.budget at fits
    omega

end

/-! ## The walk -/

/-- A lane that withdrawal lowered (R49, R71), with WITHDRAWN told for it. -/
structure WithdrawnLane (s t : State) (n : LaneId) : Prop where
  record : (s.lane n).Lowered (t.lane n) (t.lane n).g s.cal.values.crawl s.graceMs
  below : (t.lane n).g < (s.lane n).g
  hotWeb : (t.lane n).hotWeb ≤ (s.lane n).hotWeb
  latched : t.attention.isLatched .withdrawn = true
  told : t.attention.sets.withdrawn &&& n.bit ≠ 0

/-- Withdrawal has done with a lane: it is down at crawl, or its speed is not what it brings (R62). -/
def DownFor (s : State) (r : State × List LaneId) (m : LaneId) : Prop :=
  m ∈ r.2 ∧ (r.1.lane m).g = s.cal.values.crawl ∨ (s.lane m).overspeed = true

/-- Withdrawal from `s` after its turn at the lanes `done`. -/
structure Withdraws (capacity : Nat) (s : State) (done : List LaneId) (r : State × List LaneId) : Prop where
  lowers : Lowers (s, []) r
  quiet : Quiet s r.1
  spared : ∀ n, n ∉ r.2 → r.1.lane n = s.lane n
  taken : ∀ n ∈ r.2, n ∈ done
  listed : ∀ n ∈ r.2, WithdrawnLane s r.1 n
  order : ∀ n ∈ r.2, ∀ m ∈ done, StandsBefore s m n → DownFor s r m
  down : capacity < r.1.totalLoad → ∀ m ∈ done, DownFor s r m

theorem Withdraws.start {s : State} (h : Sound s) (capacity : Nat) : Withdraws capacity s [] (s, []) :=
  ⟨.refl h, .refl s, fun _ _ => rfl, nofun, nofun, nofun, nofun⟩

section
variable {capacity : Nat} {s : State} {done : List LaneId} {r : State × List LaneId} {n : LaneId}

/-- A turn that lowers no lane. -/
theorem Withdraws.passed (w : Withdraws capacity s done r) (last : ∀ m ∈ done, StandsBefore s m n)
    (down : capacity < r.1.totalLoad → DownFor s r n) : Withdraws capacity s (n :: done) r where
  lowers := w.lowers
  quiet := w.quiet
  spared := w.spared
  taken m hm := List.mem_cons_of_mem n (w.taken m hm)
  listed := w.listed
  order x hx m hm hb := by
    rcases List.mem_cons.1 hm with rfl | hm
    · exact absurd hb (last x (w.taken x hx)).asymm
    · exact w.order x hx m hm hb
  down e m hm := by
    rcases List.mem_cons.1 hm with rfl | hm
    · exact down e
    · exact w.down e m hm

/-- A turn that lowers its lane: those before are done with, since the load did not fit after them. -/
theorem Withdraws.lowered (w : Withdraws capacity s done r) (last : ∀ m ∈ done, StandsBefore s m n)
    (running : (s.lane n).state = .running) (apart : n ∉ done) (exceeds : capacity < r.1.totalLoad)
    (hg : r.1.withdrawSpeed capacity n < (r.1.lane n).g)
    (down : capacity < (r.1.withdrawTo n (r.1.withdrawSpeed capacity n)).totalLoad →
      DownFor s (r.1.withdrawTo n (r.1.withdrawSpeed capacity n), n :: r.2) n) :
    Withdraws capacity s (n :: done) (r.1.withdrawTo n (r.1.withdrawSpeed capacity n), n :: r.2) := by
  have entry : State.withdrawEntry capacity r n =
      (r.1.withdrawTo n (r.1.withdrawSpeed capacity n), n :: r.2) := by
    unfold State.withdrawEntry
    rw [if_neg (not_le.2 exceeds), if_pos hg]
  have low := entry ▸ lowers_withdrawEntry w.lowers.sound r.2 capacity n
  have same : r.1.lane n = s.lane n := w.spared n fun hn => apart (w.taken n hn)
  obtain ⟨b, lane⟩ := lane_decrease_same r.1 n (r.1.withdrawSpeed capacity n)
  generalize r.1.withdrawSpeed capacity n = g at *
  have other {m : LaneId} (hm : m ≠ n) : (r.1.withdrawTo n g).lane m = r.1.lane m := State.lane_decrease_other r.1 g hm
  have kept {m : LaneId} (hm : m ≠ n) (hd : DownFor s r m) : DownFor s (r.1.withdrawTo n g, n :: r.2) m :=
    hd.imp (fun ⟨hr, hc⟩ => ⟨List.mem_cons_of_mem n hr, by rw [other hm]; exact hc⟩) id
  have far {m : LaneId} (hm : m ∈ done) : m ≠ n := fun e => apart (e ▸ hm)
  have quiet := quiet_withdrawTo r.1 n g
  have grace : r.1.graceMs = s.graceMs := by unfold State.graceMs; rw [w.quiet.cal]
  have lowered : WithdrawnLane s (r.1.withdrawTo n g) n := by
    have at_ : (r.1.withdrawTo n g).lane n = ((s.lane n).decreased g s.cal.values.crawl s.graceMs).judged b := by
      rw [same, w.quiet.cal, grace] at lane
      exact lane
    have record := Lane.lowered_decreased running g s.cal.values.crawl s.graceMs b
    rw [← at_] at record
    refine ⟨by rw [record.g]; exact record, by rw [record.g, ← same]; exact hg, ?_, ?_,
      (or_bit_and_ne_zero ..).2 (.inr rfl)⟩
    · rw [at_]
      exact Lane.decreased_hotWeb_le ..
    · simp [State.withdrawTo]
  refine ⟨w.lowers.trans low, w.quiet.trans quiet, fun m hm => ?_, fun m hm => ?_, fun m hm => ?_,
    fun x hx m hm hb => ?_, fun e m hm => ?_⟩
  · obtain ⟨hm, hr⟩ := not_or.1 (List.mem_cons.not.1 hm)
    rw [other hm, w.spared m hr]
  · rcases List.mem_cons.1 hm with rfl | hm
    · exact List.mem_cons_self
    · exact List.mem_cons_of_mem n (w.taken m hm)
  · rcases List.mem_cons.1 hm with rfl | hm
    · exact lowered
    · obtain ⟨record, below, hotWeb, latched, told⟩ := w.listed m hm
      have same := other (far (w.taken m hm))
      exact ⟨by rw [same]; exact record, by rw [same]; exact below, by rw [same]; exact hotWeb, quiet.latched _ latched,
        quiet.withdrawn m told⟩
  · rcases List.mem_cons.1 hm with rfl | done
    · rcases List.mem_cons.1 hx with rfl | listed
      · exact absurd hb hb.asymm
      · exact absurd hb (last x (w.taken x listed)).asymm
    · rcases List.mem_cons.1 hx with rfl | listed
      · exact kept (far done) (w.down exceeds m done)
      · exact kept (far done) (w.order x listed m done hb)
  · rcases List.mem_cons.1 hm with rfl | hm
    · exact down e
    · exact kept (far hm) (w.down exceeds m hm)

theorem Withdraws.turn (w : Withdraws capacity s done r) (last : ∀ m ∈ done, StandsBefore s m n)
    (running : (s.lane n).state = .running) (apart : n ∉ done) :
    Withdraws capacity s (n :: done) (State.withdrawEntry capacity r n) := by
  have same : r.1.lane n = s.lane n := w.spared n fun hn => apart (w.taken n hn)
  unfold State.withdrawEntry
  split
  next fits => exact w.passed last fun e => absurd fits (not_le.2 e)
  next exceeds =>
    replace exceeds := not_le.1 exceeds
    have comesDown (judged : (s.lane n).overspeed = false) := withdrawSpeed_down (n := n) w.lowers.sound
      (by rw [same]; exact running) (by rw [same]; exact judged) exceeds
    split
    next hg =>
      refine w.lowered last running apart exceeds hg fun still => ?_
      cases judged : (s.lane n).overspeed with
      | true => exact .inr judged
      | false =>
        refine .inl ⟨List.mem_cons_self, ?_⟩
        rw [← w.quiet.cal]
        exact (State.decrease_g ..).trans ((comesDown judged).2 still)
    next hg =>
      refine w.passed last fun _ => .inr ?_
      by_contra judged
      exact hg (comesDown (by simpa using judged)).1

/-- Withdrawal in the order of a list. -/
theorem Withdraws.walk {ns : List LaneId} (w : Withdraws capacity s done r) (sorted : ns.Pairwise (StandsBefore s))
    (last : ∀ m ∈ done, ∀ n ∈ ns, StandsBefore s m n) (running : ∀ n ∈ ns, (s.lane n).state = .running) :
    Withdraws capacity s (ns.reverse ++ done) (State.withdraw capacity ns r) := by
  rw [withdraw_eq_foldl]
  induction ns generalizing done r with
  | nil => exact w
  | cons n ns ih =>
    obtain ⟨first, sorted⟩ := List.pairwise_cons.1 sorted
    have here (m : LaneId) (hm : m ∈ done) : StandsBefore s m n := last m hm n List.mem_cons_self
    have turn := w.turn here (running n List.mem_cons_self) fun hn => (here n hn).asymm (here n hn)
    rw [List.foldl_cons, List.reverse_cons, List.append_assoc]
    refine ih turn sorted (fun m hm k hk => ?_) fun k hk => running k (List.mem_cons_of_mem n hk)
    rcases List.mem_cons.1 hm with rfl | hm
    · exact first k hk
    · exact last m hm k (List.mem_cons_of_mem n hk)

/-- The whole withdrawal: every RUNNING lane has had its turn. -/
theorem withdraws_all (h : Sound s) (capacity : Nat) :
    Withdraws capacity s s.runningByStamp.reverse (State.withdraw capacity s.runningByStamp (s, [])) := by
  have walked := (Withdraws.start h capacity).walk (pairwise_runningByStamp s) nofun
    fun n hn => (mem_runningByStamp s n).1 hn
  rwa [List.append_nil] at walked

end

/-! ## The lane first in the order -/

/-- Withdrawal leaves a lane that is not in its list. -/
theorem withdraw_beside {capacity : Nat} {n : LaneId} {ns : List LaneId} (hn : n ∉ ns) (r : State × List LaneId) :
    (State.withdraw capacity ns r).1.lane n = r.1.lane n ∧ (n ∈ (State.withdraw capacity ns r).2 ↔ n ∈ r.2) := by
  rw [withdraw_eq_foldl]
  induction ns generalizing r with
  | nil => exact ⟨rfl, .rfl⟩
  | cons m ns ih =>
    obtain ⟨hm, hns⟩ := not_or.1 (List.mem_cons.not.1 hn)
    obtain ⟨lane, listed⟩ := ih hns (State.withdrawEntry capacity r m)
    have entry : (State.withdrawEntry capacity r m).1.lane n = r.1.lane n ∧
        (n ∈ (State.withdrawEntry capacity r m).2 ↔ n ∈ r.2) := by
      unfold State.withdrawEntry
      split
      · exact ⟨rfl, .rfl⟩
      · split
        · exact ⟨State.lane_decrease_other r.1 _ hm, by simp [hm]⟩
        · exact ⟨rfl, .rfl⟩
    exact ⟨lane.trans entry.1, listed.trans entry.2⟩

/-- The RUNNING lane of the highest stamp goes to its withdrawal speed, or overspeeds and stays as it is (R71). -/
theorem withdraw_first {s : State} (h : Sound s) {n : LaneId} (first : FirstToLower s n) {capacity : Nat}
    (exceeds : capacity < s.totalLoad) :
    let r := State.withdraw capacity s.runningByStamp (s, [])
    (r.1.lane n).g = s.withdrawSpeed capacity n ∧
      (n ∈ r.2 ∨ n ∉ r.2 ∧ s.withdrawSpeed capacity n = (s.lane n).g ∧ (s.lane n).overspeed = true) := by
  obtain ⟨rest, order⟩ := List.head?_eq_some_iff.1 ((head_runningByStamp s n).2 first)
  have sorted := pairwise_runningByStamp s
  rw [order] at sorted ⊢
  have apart : n ∉ rest := fun hn =>
    have self := (List.pairwise_cons.1 sorted).1 n hn
    self.asymm self
  have walk : State.withdraw capacity (n :: rest) (s, []) =
      State.withdraw capacity rest (State.withdrawEntry capacity (s, []) n) := by
    rw [withdraw_eq_foldl, withdraw_eq_foldl]
    rfl
  obtain ⟨lane, listed⟩ := withdraw_beside (capacity := capacity) apart (State.withdrawEntry capacity (s, []) n)
  dsimp only
  rw [walk, lane, listed]
  unfold State.withdrawEntry
  rw [if_neg (not_le.2 exceeds)]
  split
  · exact ⟨State.decrease_g s n _, .inl List.mem_cons_self⟩
  next hg =>
    have same : s.withdrawSpeed capacity n = (s.lane n).g := Nat.le_antisymm (withdrawSpeed_le s n capacity) (not_lt.1 hg)
    refine ⟨same.symm, .inr ⟨nofun, same, ?_⟩⟩
    by_contra judged
    exact hg (withdrawSpeed_down h first.1 (by simpa using judged) exceeds).1

end Sys2Proof.Machine
end

section
/-! PROOF. An evaluation leaves a load that fits, or SAFE_HOLD for OVERLOAD; and what its withdrawal leaves of each lane to
its end (R65, R71, R72). -/

namespace Sys2Proof.Machine

/-- Service lowers no lane (R76). -/
theorem serviced_raises {s t : State} (served : Serviced s t) : Raises s.lowered.1 t := by
  rw [served.2]
  refine foldl_keeps (P := Raises s.lowered.1) (fun u n hu => hu.trans ?_) _ (.refl _)
  unfold State.serveEntry
  split
  · exact .refl u
  · exact raises_service.serveLane u s.capacity trivial

/-! ## A withdrawal with no other lowering beside it -/

section
variable {s : State} (h : Sound s) (excess : s.arbiter.excess ≠ 2) (cool : ∀ n, (s.lane n).hotWeb < 9)
include h

/-- The withdrawal stage of an evaluation. -/
theorem withdraws_evaluation : Withdraws s.capacity s.atEvaluation.holdEstimate
    s.atEvaluation.holdEstimate.runningByStamp.reverse s.withdrawn :=
  withdraws_all (lowers_began h).sound s.capacity

include excess cool

/-- The stages between withdrawal and service lower and list no lane. -/
theorem lowered_withdrawn (n : LaneId) : s.lowered.1.lane n =
    { s.withdrawn.1.lane n with hotWeb := (s.lowered.1.lane n).hotWeb } ∧ (n ∈ s.lowered.2 ↔ n ∈ s.withdrawn.2) := by
  have w := withdraws_evaluation h
  have analyzed : State.analyzerStep s.withdrawn = s.withdrawn := analyzerStep_of_ne (by rw [w.quiet.excess]; exact excess)
  have few : (s.withdrawn.1.lane n).hotWeb ≤ (s.lane n).hotWeb := by
    by_cases hn : n ∈ s.withdrawn.2
    · exact (w.listed n hn).hotWeb
    · exact (congrArg Lane.hotWeb (w.spared n hn)).le
  have count : s.withdrawn.1.hotWebCount n < 10 := by
    have := hotWebCount_le (s := s.withdrawn.1) (n := n)
    have := cool n
    omega
  obtain ⟨beside, listed⟩ := hotWebStage_counts count
  unfold State.lowered
  rw [analyzed]
  refine ⟨?_, listed⟩
  rw [beside.lane, State.lane_modLane_same]

omit cool in
theorem quiet_lowered : Quiet s.withdrawn.1 s.lowered.1 := by
  have w := withdraws_evaluation h
  have analyzed : State.analyzerStep s.withdrawn = s.withdrawn := analyzerStep_of_ne (by rw [w.quiet.excess]; exact excess)
  unfold State.lowered
  rw [analyzed]
  exact quiet_hotWeb.hotWebSteps s.withdrawn LaneId.all fun _ _ => trivial

variable {t : State} (served : Serviced s t)
include served

/-- A lane that withdrawal lowered is at the end as withdrawal left it, but for its hot-web count. -/
theorem withdrawn_stays {n : LaneId} (hn : n ∈ s.withdrawn.2) :
    (∃ k, t.lane n = { s.withdrawn.1.lane n with hotWeb := k }) ∧
      (n ∈ t.arbiter.queue ↔ n ∈ s.arbiter.queue) := by
  obtain ⟨lane, listed⟩ := lowered_withdrawn h excess cool n
  have beside := serviced_listed h served (listed.2 hn)
  have queue : s.lowered.1.arbiter.queue = s.arbiter.queue := (lowers_lowered h).queue
  exact ⟨⟨_, beside.lane.trans lane⟩, by rw [beside.entry, queue]⟩

/-- The lane first in the order goes to the larger of crawl and its fitting speed, never above its g (R71). -/
theorem first_withdrawn {n : LaneId} (first : FirstToLower s n) (exceeds : s.capacity < s.totalLoad) :
    (t.lane n).g = s.withdrawSpeed s.capacity n := by
  have whole : (s.withdrawn.1.lane n).g = s.withdrawSpeed s.capacity n ∧ (n ∈ s.withdrawn.2 ∨
      n ∉ s.withdrawn.2 ∧ s.withdrawSpeed s.capacity n = (s.lane n).g ∧ (s.lane n).overspeed = true) :=
    withdraw_first (s := s.atEvaluation.holdEstimate) (lowers_began h).sound first exceeds
  obtain ⟨speed, hn | ⟨hn, stays, overspeed⟩⟩ := whole
  · obtain ⟨⟨k, lane⟩, -⟩ := withdrawn_stays h excess cool served hn
    rw [lane]
    exact speed
  · have spared : n ∉ s.lowered.2 := fun e => hn ((lowered_withdrawn h excess cool n).2.1 e)
    have passed : n ∉ s.arbiter.queue ∨ s.held n = true := by
      by_cases hq : n ∈ s.arbiter.queue
      · exact .inr (by rw [State.held, holds_queued hq, overspeed]; simp)
      · exact .inl hq
    exact (serviced_alike h served spared passed).g.trans stays.symm

/-- A lane lowered by the evaluation was lowered by withdrawal. -/
theorem withdrawn_of_lowered {n : LaneId} (hlt : (t.lane n).g < (s.lane n).g) : n ∈ s.withdrawn.2 := by
  by_contra hn
  obtain ⟨lane, -⟩ := lowered_withdrawn h excess cool n
  have spared : s.withdrawn.1.lane n = s.lane n := (withdraws_evaluation h).spared n hn
  have same : (s.lowered.1.lane n).g = (s.lane n).g := by rw [lane, spared]
  have raised := (serviced_raises served n).1
  omega

/-- What withdrawal does to a lane it lowers, and to those before it (R65, R71). -/
theorem lowered_in_order {n : LaneId} (hlt : (t.lane n).g < (s.lane n).g) :
    (s.lane n).state = .running ∧ LoweredIn s t n (t.lane n).g ∧ t.attention.isLatched .withdrawn = true ∧
    t.attention.sets.withdrawn &&& n.bit ≠ 0 ∧
    ∀ m, m ≠ n → (s.lane m).state = .running → StandsBefore s m n →
      (t.lane m).g = s.cal.values.crawl ∨ (s.lane m).overspeed = true := by
  have w := withdraws_evaluation h
  have hn := withdrawn_of_lowered h excess cool served hlt
  have turns (m : LaneId) : m ∈ s.atEvaluation.holdEstimate.runningByStamp.reverse ↔ (s.lane m).state = .running :=
    List.mem_reverse.trans (mem_runningByStamp s.atEvaluation.holdEstimate m)
  have quiet := (quiet_lowered h excess).trans (serviced_serves h served).quiet
  have withdrawn := w.listed n hn
  obtain ⟨⟨k, lane⟩, entry⟩ := withdrawn_stays h excess cool served hn
  have record : (s.lane n).Lowered (t.lane n) (t.lane n).g s.cal.values.crawl s.graceMs := by
    rw [lane]
    exact withdrawn.record.recount k
  refine ⟨(turns n).1 (w.taken n hn), loweredIn_of_lane record entry,
    quiet.latched _ withdrawn.latched, quiet.withdrawn n withdrawn.told, fun m _ running stands => ?_⟩
  rcases w.order n hn m ((turns m).2 running) stands with ⟨hm, crawl⟩ | overspeed
  · obtain ⟨⟨k, down⟩, -⟩ := withdrawn_stays h excess cool served hm
    rw [down]
    exact .inl crawl
  · exact .inr overspeed

end

/-! ## The obligation -/

/-- Settles O19: the walk over the stages gives the two ends of an evaluation; the invariant of the withdrawal walk gives
the order in which lanes come down. -/
theorem evaluationFitsOrHolds : Obligations.EvaluationFitsOrHolds := by
  refine ⟨fun s l hp hd => ⟨_, exec_evaluation hp hd, ?_⟩,
    fun s l hp hd exceeds excess cool => ⟨_, exec_evaluation hp hd, fun heats => ?_⟩⟩
  · have h := l.sound
    rcases evaluate_cases h hd with ⟨-, overloaded⟩ | ⟨-, served⟩
    · generalize s.atEvaluation.evaluate = t at overloaded
      obtain ⟨state, cause, queue, latched, -, -⟩ := overloaded
      refine .inr ⟨state, cause, queue, latched, ?_⟩
      show t.formDemand = t.cal.values.qMax
      rw [State.formDemand, state]
    · have serves := serviced_serves h served
      have dryer : s.atEvaluation.evaluate.dryer = s.dryer := serves.quiet.dryer.trans (lowers_lowered h).dryer
      generalize s.atEvaluation.evaluate = t at serves dryer
      exact .inl ⟨(congrArg Dryer.state dryer).trans hd, serves.fits served.1⟩
  · have h := l.sound
    rcases evaluate_cases h hd with ⟨-, overloaded⟩ | ⟨-, served⟩
    · replace heats : s.atEvaluation.evaluate.dryer.state = .heating := heats
      rw [overloaded.state] at heats
      cases heats
    · clear heats
      generalize s.atEvaluation.evaluate = t at served
      refine ⟨fun n first p hprofile => ?_, fun n hlt => ?_⟩
      · refine (first_withdrawn h excess cool served first exceeds).trans ?_
        unfold State.withdrawSpeed
        rw [fittingSpeed_profile hprofile]
        rfl
      · obtain ⟨running, lowered, latched, told, order⟩ := lowered_in_order h excess cool served hlt
        exact ⟨running, lowered.reform, latched, told, order⟩

end Sys2Proof.Machine
end

section
/-! PROOF. A raise leaves a total load within the capacity of its evaluation (R76). -/

namespace Sys2Proof.Machine

/-- Settles O17: an overload raises no lane, and the service that ends any other evaluation keeps the load within the
capacity at each raise. -/
theorem evaluationRaisesWithinCapacity : Obligations.EvaluationRaisesWithinCapacity := by
  rintro s t e l hp hd ⟨n, raised⟩
  cases Host.Outcome.next.inj ((exec_evaluation hp hd).symm.trans e)
  rcases evaluate_cases l.sound hd with ⟨-, overloaded⟩ | ⟨-, served⟩
  · exact absurd raised (overloaded.none_raised n)
  · exact (serviced_serves l.sound served).fits served.1

end Sys2Proof.Machine
end

section
/-! PROOF. The pairs of one RDG walked in turn (R101): no channel stands in two of them, so that each is judged as the
request found it. -/

namespace Sys2Proof.Machine

/-! ## The channels of the pairs -/

/-- Pairs that pass the test name channels not seen before it, none of them twice (R100). -/
theorem nodup_of_checkPairs {k : Nat} {seen : List Channel} {raw : List (Nat × Int)} {pairs : List (Channel × Int)}
    (h : checkPairs k seen raw = .ok pairs) :
    (pairs.map Prod.fst).Nodup ∧ ∀ c ∈ pairs.map Prod.fst, c ∉ seen := by
  induction raw generalizing k seen pairs with
  | nil =>
    cases h
    exact ⟨List.nodup_nil, fun _ hc => absurd hc List.not_mem_nil⟩
  | cons r raw ih =>
    obtain ⟨number, v⟩ := r
    unfold checkPairs at h
    split at h
    next => cases h
    next c _ =>
      split at h
      next => cases h
      next fresh =>
        split at h
        next => cases h
        next ps hps =>
          cases h
          obtain ⟨nodup, unseen⟩ := ih hps
          rw [List.map_cons]
          refine ⟨List.nodup_cons.2 ⟨fun hc => unseen c hc List.mem_cons_self, nodup⟩, fun d hd => ?_⟩
          rcases List.mem_cons.1 hd with rfl | hd
          · simpa using fresh
          · exact fun hs => unseen d hd (List.mem_cons_of_mem _ hs)

section
variable {R : State → State → Prop} (refl : ∀ s, R s s) (trans : ∀ {s t u}, R s t → R t u → R s u)
  {op : State → Channel × Int → State} {c : Channel} (hop : ∀ t q, q.1 ≠ c → R t (op t q))
  {pairs : List (Channel × Int)}
include refl trans hop

/-- A preorder that the pairs of other channels keep holds across a walk that does not come to the channel. -/
theorem pairs_beside (h : ∀ p ∈ pairs, p.1 ≠ c) (s : State) : R s (pairs.foldl op s) := by
  induction pairs generalizing s with
  | nil => exact refl s
  | cons p ps ih =>
    exact trans (hop s p (h p List.mem_cons_self)) (ih (fun q hq => h q (List.mem_cons_of_mem _ hq)) _)

/-- A walk comes to a pair through those before it, and leaves it for those after it, none of which names its channel. -/
theorem pairs_at (nodup : (pairs.map Prod.fst).Nodup) {v : Int} (h : (c, v) ∈ pairs) (s : State) :
    ∃ u, R s u ∧ R (op u (c, v)) (pairs.foldl op s) := by
  obtain ⟨before, after, rfl⟩ := List.append_of_mem h
  rw [List.map_append, List.map_cons] at nodup
  obtain ⟨-, tail, apart⟩ := List.nodup_append.1 nodup
  have first : ∀ p ∈ before, p.1 ≠ c := fun p hp =>
    apart p.1 (List.mem_map_of_mem hp) c List.mem_cons_self
  have last : ∀ p ∈ after, p.1 ≠ c := fun p hp e =>
    (List.nodup_cons.1 tail).1 (List.mem_map.2 ⟨p, hp, e⟩)
  rw [List.foldl_append, List.foldl_cons]
  exact ⟨_, pairs_beside refl trans hop first s, pairs_beside refl trans hop last _⟩

end

/-! ## The values taken -/

section
variable (s : State) {pairs : List (Channel × Int)}

theorem keepsAllBut_takeValues : KeepsAllBut [.readings] s (pairs.foldl State.takeValue s) :=
  foldl_keeps (P := KeepsAllBut [.readings] s) (fun t _ h => h.trans (keepsAllBut_setReading t _ _)) _ (.refl _ s)

theorem reading_takeValue_other {c : Channel} (t : State) (p : Channel × Int) (h : p.1 ≠ c) :
    (t.takeValue p).reading c = t.reading c := State.reading_setReading_other _ _ h.symm

/-- A channel that no pair names keeps its record. -/
theorem reading_takeValues_unnamed {c : Channel} (h : ∀ p ∈ pairs, p.1 ≠ c) :
    (pairs.foldl State.takeValue s).reading c = s.reading c :=
  pairs_beside (R := fun s t => t.reading c = s.reading c) (fun _ => rfl) (fun h h' => h'.trans h)
    reading_takeValue_other h s

/-- A channel that a pair names holds its value clamped, is fresh and of age 0 (R101). -/
theorem reading_takeValues_named (nodup : (pairs.map Prod.fst).Nodup) {p : Channel × Int} (h : p ∈ pairs) :
    (pairs.foldl State.takeValue s).reading p.1 = ⟨some (p.1.clamp p.2), true, 0⟩ := by
  obtain ⟨u, -, after⟩ := pairs_at (R := fun s t => t.reading p.1 = s.reading p.1) (fun _ => rfl)
    (fun h h' => h'.trans h) reading_takeValue_other nodup h s
  exact after.trans (State.reading_setReading_same ..)

end

/-! ## One cut test -/

/-- The cut flag of a zone (R106). -/
def State.cut (s : State) (n : LaneId) (z : ZoneId) : Bool := (s.cuts.get n).get z

/-- The cut flag that a value taken makes of a zone's flag (R106). -/
def State.cutJudged (s : State) (n : LaneId) (z : ZoneId) (v : Int) : Bool :=
  if s.cut n z = true then decide ((s.setpoint n z : Int) < v) else decide ((s.cutPoint n z : Int) < v)

theorem cut_setCut_same (s : State) (n : LaneId) (z : ZoneId) (v : Bool) : (s.setCut n z v).cut n z = v := by
  simp [State.cut, State.setCut]

theorem cut_setCut_other (s : State) {n m : LaneId} {z y : ZoneId} (v : Bool) (h : Channel.zone n z ≠ .zone m y) :
    (s.setCut n z v).cut m y = s.cut m y := by
  unfold State.cut State.setCut
  by_cases hm : m = n
  · subst hm
    have hy : y ≠ z := fun e => h (by rw [e])
    rw [PerLane.get_set_same, PerZone.get_set_other _ _ hy]
  · rw [PerLane.get_set_other _ _ hm]

theorem setCut_cut (s : State) (n : LaneId) (z : ZoneId) : s.setCut n z (s.cut n z) = s := by
  cases n <;> cases z <;> rfl

/-- The cut test writes the flag as judged, and tells ZONE_OVERTEMP where it sets a flag (R106). -/
theorem cutTest_eq (s : State) (n : LaneId) (z : ZoneId) (v : Int) : s.cutTest n z v =
    if s.cut n z = false ∧ s.cutJudged n z v = true then
      (s.setCut n z (s.cutJudged n z v)).latchLane .zoneOvertemp n
    else s.setCut n z (s.cutJudged n z v) := by
  have still := setCut_cut s n z
  unfold State.cutTest State.cutJudged
  change (if s.cut n z = true then _ else _) = _
  cases hc : s.cut n z with
  | true =>
    rw [hc] at still
    by_cases hv : v ≤ (s.setpoint n z : Int)
    · simp [hv, not_lt.2 hv]
    · simp [hv, not_le.1 hv, still]
  | false =>
    rw [hc] at still
    by_cases hv : (s.cutPoint n z : Int) < v
    · simp [hv]
    · simp [hv, still]

/-- A cut flag that was clear is set. -/
def NewlyCut (s t : State) (n : LaneId) (z : ZoneId) : Prop := s.cut n z = false ∧ t.cut n z = true

/-- ZONE_OVERTEMP is latched, and its lane told, for each flag set (R106). -/
structure CutsTold (s t : State) : Prop where
  laneSet : ∀ n, t.attention.sets.zoneOvertemp &&& n.bit ≠ 0 ↔ s.attention.sets.zoneOvertemp &&& n.bit ≠ 0 ∨
    ∃ z, NewlyCut s t n z
  latched : t.attention.isLatched .zoneOvertemp = true ↔ s.attention.isLatched .zoneOvertemp = true ∨
    ∃ n z, NewlyCut s t n z

/-- No flag is newly set between states of the same flags. -/
theorem not_newlyCut {s t : State} {n : LaneId} {z : ZoneId} (h : t.cut n z = s.cut n z) : ¬NewlyCut s t n z :=
  fun ⟨clear, set⟩ => by rw [h, clear] at set; cases set

theorem CutsTold.refl (s : State) : CutsTold s s where
  laneSet n := by simp [not_newlyCut]
  latched := by simp [not_newlyCut]

/-- Tests of different zones add up. -/
theorem CutsTold.trans {s t u : State} (h : CutsTold s t) (h' : CutsTold t u)
    (apart : ∀ n z, t.cut n z = s.cut n z ∨ u.cut n z = t.cut n z) : CutsTold s u := by
  have newly (n : LaneId) (z : ZoneId) : NewlyCut s u n z ↔ NewlyCut s t n z ∨ NewlyCut t u n z := by
    unfold NewlyCut
    rcases apart n z with e | e
    · rw [e]; cases s.cut n z <;> simp
    · rw [e]; cases t.cut n z <;> simp
  constructor
  · simp only [h'.laneSet, h.laneSet, newly, exists_or, or_assoc, implies_true]
  · simp only [h'.latched, h.latched, newly, exists_or, or_assoc]

/-- What is told goes by the flags, the lane sets and ZONE_OVERTEMP alone. -/
theorem CutsTold.congr {s t s' t' : State} (h : CutsTold s t) (cuts : s'.cuts = s.cuts)
    (attention : s'.attention = s.attention) (cuts' : t'.cuts = t.cuts) (sets : t'.attention.sets = t.attention.sets)
    (latched : t'.attention.isLatched .zoneOvertemp = t.attention.isLatched .zoneOvertemp) : CutsTold s' t' := by
  have newly (n : LaneId) (z : ZoneId) : NewlyCut s' t' n z ↔ NewlyCut s t n z := by
    unfold NewlyCut State.cut
    rw [cuts, cuts']
  constructor
  · simp only [newly, attention, sets, h.laneSet, implies_true]
  · simp only [newly, attention, latched, h.latched]

/-- A cut test leaves every record but the flags and the attention record, and every cause but ZONE_OVERTEMP. -/
structure CutsOnly (s t : State) : Prop where
  latched : ∀ c, c ≠ .zoneOvertemp → t.attention.isLatched c = s.attention.isLatched c
  keeps : KeepsAllBut [.cuts, .attention] s t

theorem CutsOnly.refl (s : State) : CutsOnly s s := ⟨fun _ _ => rfl, .refl _ s⟩

theorem CutsOnly.trans {s t u : State} (h : CutsOnly s t) (h' : CutsOnly t u) : CutsOnly s u :=
  ⟨fun c hc => (h'.latched c hc).trans (h.latched c hc), h.keeps.trans h'.keeps⟩

section
variable (s : State) (p : Channel × Int)

theorem judgeCut_zone (n : LaneId) (z : ZoneId) (v : Int) :
    s.judgeCut (.zone n z, v) = s.cutTest n z ((Channel.zone n z).clamp v) := rfl

theorem cut_judgeCut_same (n : LaneId) (z : ZoneId) (v : Int) :
    (s.judgeCut (.zone n z, v)).cut n z = s.cutJudged n z ((Channel.zone n z).clamp v) := by
  rw [judgeCut_zone, cutTest_eq]
  split
  · exact cut_setCut_same ..
  · exact cut_setCut_same ..

theorem cut_judgeCut_other {n : LaneId} {z : ZoneId} (h : p.1 ≠ .zone n z) : (s.judgeCut p).cut n z = s.cut n z := by
  obtain ⟨c, v⟩ := p
  cases c with
  | zone m y =>
    rw [judgeCut_zone, cutTest_eq]
    split
    · exact cut_setCut_other s _ h
    · exact cut_setCut_other s _ h
  | _ => rfl

/-- A flag written is newly set where it was clear, and no other is. -/
theorem newlyCut_setCut {n m : LaneId} {z y : ZoneId} {v : Bool} :
    NewlyCut s (s.setCut n z v) m y ↔ (m = n ∧ y = z) ∧ s.cut n z = false ∧ v = true := by
  by_cases hc : m = n ∧ y = z
  · obtain ⟨rfl, rfl⟩ := hc
    simp [NewlyCut, cut_setCut_same]
  · have other := cut_setCut_other s v (n := n) (m := m) (z := z) (y := y)
      fun e => hc ⟨(Channel.zone.inj e).1.symm, (Channel.zone.inj e).2.symm⟩
    simp [hc, not_newlyCut other]

theorem cutsTold_cutTest (n : LaneId) (z : ZoneId) (v : Int) : CutsTold s (s.cutTest n z v) := by
  rw [cutTest_eq]
  generalize s.cutJudged n z v = flag
  split
  next told =>
    have newly (m : LaneId) (y : ZoneId) :
        NewlyCut s ((s.setCut n z flag).latchLane .zoneOvertemp n) m y ↔ m = n ∧ y = z :=
      (newlyCut_setCut s).trans (and_iff_left told)
    refine ⟨fun m => ?_, ?_⟩
    · simp only [newly, exists_eq_right]
      exact (or_bit_and_ne_zero ..).trans (or_congr_right eq_comm)
    · simp [newly]
  next untold =>
    have newly (m : LaneId) (y : ZoneId) : ¬NewlyCut s (s.setCut n z flag) m y :=
      fun h => untold ((newlyCut_setCut s).1 h).2
    refine ⟨fun m => ?_, ?_⟩
    · simp only [newly, exists_false, or_false]
      rfl
    · simp only [newly, exists_false, or_false]
      rfl

theorem cutsTold_judgeCut : CutsTold s (s.judgeCut p) := by
  obtain ⟨c, v⟩ := p
  cases c with
  | zone n z => exact cutsTold_cutTest ..
  | _ => exact .refl s

theorem cutsOnly_judgeCut : CutsOnly s (s.judgeCut p) := by
  have written (n : LaneId) (z : ZoneId) (v : Bool) : CutsOnly s (s.setCut n z v) :=
    ⟨fun _ _ => rfl, ⟨fun q hq => by cases q <;> first | rfl | simp at hq, rfl⟩⟩
  have told (t : State) (n : LaneId) : CutsOnly t (t.latchLane .zoneOvertemp n) :=
    ⟨fun d hd => by rw [State.latchLane_attention, Attention.isLatched_latchLane, decide_eq_false hd, Bool.or_false],
      (keepsAllBut_latchLane ..).mono (by simp)⟩
  obtain ⟨c, v⟩ := p
  cases c with
  | zone n z =>
    rw [judgeCut_zone, cutTest_eq]
    split
    · exact (written ..).trans (told ..)
    · exact written ..
  | _ => exact .refl s

end

/-! ## The cut tests together -/

/-- The setpoint and the cut point go by the lanes, the table and the calibration alone (R104, R106). -/
theorem cutJudged_congr {s t : State} {n : LaneId} {z : ZoneId} (lane : t.lane n = s.lane n)
    (profiles : t.profiles = s.profiles) (cal : t.cal = s.cal) (cut : t.cut n z = s.cut n z) (v : Int) :
    t.cutJudged n z v = s.cutJudged n z v := by
  unfold State.cutJudged State.cutPoint State.setpoint State.profileOf
  rw [lane, profiles, cal, cut]

section
variable (s : State) {pairs : List (Channel × Int)}

/-- A zone that no pair names keeps its flag. -/
theorem cut_judgeCuts_unnamed {n : LaneId} {z : ZoneId} (h : ∀ p ∈ pairs, p.1 ≠ .zone n z) :
    (pairs.foldl State.judgeCut s).cut n z = s.cut n z :=
  pairs_beside (R := fun s t => t.cut n z = s.cut n z) (fun _ => rfl) (fun h h' => h'.trans h)
    (fun t q hq => cut_judgeCut_other t q hq) h s

/-- A zone that a pair names is judged as the walk began (R106). -/
theorem cut_judgeCuts_named (nodup : (pairs.map Prod.fst).Nodup) {n : LaneId} {z : ZoneId} {v : Int}
    (h : (Channel.zone n z, v) ∈ pairs) :
    (pairs.foldl State.judgeCut s).cut n z = s.cutJudged n z ((Channel.zone n z).clamp v) := by
  obtain ⟨u, ⟨keeps, cut⟩, -, after⟩ :=
    pairs_at (R := fun s t => KeepsAllBut [.cuts, .attention] s t ∧ t.cut n z = s.cut n z) (fun s => ⟨.refl _ s, rfl⟩)
      (fun h h' => ⟨h.1.trans h'.1, h'.2.trans h.2⟩)
      (fun t q hq => ⟨(cutsOnly_judgeCut t q).keeps, cut_judgeCut_other t q hq⟩) nodup h s
  rw [after, cut_judgeCut_same]
  exact cutJudged_congr (keeps.1 (.lane n) (by simp)) (keeps.1 .profiles (by simp)) (keeps.1 .cal (by simp)) cut _

theorem cutsOnly_judgeCuts : CutsOnly s (pairs.foldl State.judgeCut s) :=
  foldl_keeps (P := CutsOnly s) (fun t p h => h.trans (cutsOnly_judgeCut t p)) _ (.refl s)

/-- Each zone is tested once at most, so that what the tests tell adds up (R106). -/
theorem cutsTold_judgeCuts (nodup : (pairs.map Prod.fst).Nodup) : CutsTold s (pairs.foldl State.judgeCut s) := by
  induction pairs generalizing s with
  | nil => exact .refl s
  | cons p ps ih =>
    obtain ⟨once, nodup⟩ := List.nodup_cons.1 nodup
    refine (cutsTold_judgeCut s p).trans (ih _ nodup) fun n z => ?_
    by_cases e : p.1 = .zone n z
    · exact .inr (cut_judgeCuts_unnamed _ fun q hq e' => once ((e.trans e'.symm) ▸ List.mem_map_of_mem hq))
    · exact .inl (cut_judgeCut_other s p e)

end

end Sys2Proof.Machine
end

section
/-! PROOF. RDG (R73, R92, R100, R101, R106): the pairs taken, stage after stage, and the refusals. -/

namespace Sys2Proof.Machine

/-! ## The in-band states -/

/-- The in-band states re-formed change lane records alone, and no lane's key (R105). -/
theorem judgeBands_keeps (pairs : List (Channel × Int)) (s : State) :
    (∀ n, ((pairs.foldl State.judgeBand s).lane n).key = (s.lane n).key) ∧
      KeepsAllBut everyLane s (pairs.foldl State.judgeBand s) := by
  refine foldl_keeps (P := fun t => (∀ n, (t.lane n).key = (s.lane n).key) ∧ KeepsAllBut everyLane s t)
    (fun t p ⟨key, keeps⟩ => ?_) _ ⟨fun _ => rfl, .refl _ s⟩
  unfold State.judgeBand
  split
  next n _ _ =>
    exact ⟨fun m => ((evaluates_settle t n).lane m).key.trans (key m),
      keeps.trans ((keepsAllBut_settle t n).mono (by cases n <;> decide))⟩
  next => exact ⟨key, keeps⟩

/-! ## The analyzer -/

/-- What a SAFE_HOLD request and the latching of its cause leave (R93, R94, R95): the excess count, the lane sets, every
other cause, and the dryer where no request is taken. -/
structure HighJudged (s t : State) : Prop extends Evaluates s t where
  excess : t.arbiter.excess = s.arbiter.excess
  sets : t.attention.sets = s.attention.sets
  latched : ∀ c, c ≠ .analyzerHigh → c ≠ .safeHold → t.attention.isLatched c = s.attention.isLatched c
  dryer : s.dryer.state ≠ .purge → s.dryer.state ≠ .heating → t.dryer = s.dryer

theorem HighJudged.refl (s : State) : HighJudged s s := ⟨.refl s, rfl, rfl, fun _ _ _ => rfl, fun _ _ => rfl⟩

theorem HighJudged.trans {s t u : State} (h : HighJudged s t) (h' : HighJudged t u) : HighJudged s u where
  toEvaluates := h.toEvaluates.trans h'.toEvaluates
  excess := h'.excess.trans h.excess
  sets := h'.sets.trans h.sets
  latched c ha hs := (h'.latched c ha hs).trans (h.latched c ha hs)
  dryer hp hh := by
    have dryer := h.dryer hp hh
    exact (h'.dryer (by rwa [dryer]) (by rwa [dryer])).trans dryer

/-- A cause latched leaves the others (R137). -/
theorem isLatched_latch_other (s : State) {c d : Cause} (h : d ≠ c) :
    (s.latch c).attention.isLatched d = s.attention.isLatched d := by
  rw [State.latch_latched, Attention.isLatched_latch, decide_eq_false h, Bool.or_false]

theorem highJudged_latch (s : State) : HighJudged s (s.latch .analyzerHigh) where
  toEvaluates := evaluates_latch ..
  excess := by rw [State.latch_arbiter]
  sets := by rw [State.latch_latched]; rfl
  latched c hc _ := isLatched_latch_other s hc
  dryer _ _ := State.latch_dryer ..

/-- The state in which SAFE_HOLD is entered, before the lanes are suspended (R94). -/
def State.holding (s : State) (c : HoldCause) : State :=
  { (s.enterDryer .safeHold).latch .safeHold with
    dryer := { ((s.enterDryer .safeHold).latch .safeHold).dryer with lastCause := some c } }

theorem highJudged_requestSafeHold (s : State) (c : HoldCause) : HighJudged s (s.requestSafeHold c) := by
  by_cases h : s.dryer.state = .purge ∨ s.dryer.state = .heating
  · have entered : s.requestSafeHold c = (s.holding c).suspendWhere LaneState.moving := if_pos h
    have attention : (s.requestSafeHold c).attention = (s.latch .safeHold).attention := by
      rw [entered]
      exact (keepsAllBut_suspendWhere (s.holding c) LaneState.moving).1 .attention (by decide)
    refine ⟨evaluates_requestSafeHold s c, ?_, ?_, fun d _ hd => ?_, fun hp hh => absurd h (not_or.2 ⟨hp, hh⟩)⟩
    · rw [entered, suspendWhere_arbiter]
      rfl
    · rw [attention, State.latch_latched]
      rfl
    · rw [attention, isLatched_latch_other s hd]
  · rw [show s.requestSafeHold c = s from if_neg h]
    exact .refl s

theorem highJudged_judgeHigh (s : State) (v : Int) : HighJudged s (s.judgeHigh v) := by
  unfold State.judgeHigh
  split
  · exact (highJudged_latch s).trans (highJudged_requestSafeHold ..)
  · exact .refl s

/-- What the judgement of the pairs by the analyzer's rules leaves (R73, R93, R95, R109), and the excess count that it
makes. -/
structure AnalyzerJudged (s : State) (pairs : List (Channel × Int)) (t : State) : Prop extends Evaluates s t where
  taken : ∀ v, (Channel.analyzer, v) ∈ pairs → s.cal.values.analyzerFitted = true → t.arbiter.excess =
    if (s.load.activeLimit : Int) < Channel.analyzer.clamp v then min 2 (s.arbiter.excess + 1) else 0
  passed : (∀ p ∈ pairs, p.1 ≠ .analyzer) ∨ s.cal.values.analyzerFitted = false → t.arbiter.excess = s.arbiter.excess
  sets : t.attention.sets = s.attention.sets
  latched : ∀ c, c ≠ .analyzerHigh → c ≠ .safeHold → t.attention.isLatched c = s.attention.isLatched c
  dryer : s.dryer.state ≠ .purge → s.dryer.state ≠ .heating → t.dryer = s.dryer

theorem judgeAnalyzer_other (s : State) (p : Channel × Int) (h : p.1 ≠ .analyzer) : s.judgeAnalyzer p = s := by
  obtain ⟨c, v⟩ := p
  cases c with
  | analyzer => exact absurd rfl h
  | _ => rfl

theorem judgeAnalyzer_fitted {s : State} (h : s.cal.values.analyzerFitted = true) (v : Int) :
    s.judgeAnalyzer (.analyzer, v) =
      (s.stepExcess (Channel.analyzer.clamp v)).judgeHigh (Channel.analyzer.clamp v) := if_pos h

theorem judgeAnalyzer_unfitted {s : State} (h : s.cal.values.analyzerFitted = false) (p : Channel × Int) :
    s.judgeAnalyzer p = s := by
  unfold State.judgeAnalyzer
  split
  · rw [if_neg (by rw [h]; decide)]
  · rfl

theorem AnalyzerJudged.of_same {s : State} {pairs : List (Channel × Int)}
    (h : (∀ p ∈ pairs, p.1 ≠ .analyzer) ∨ s.cal.values.analyzerFitted = false) : AnalyzerJudged s pairs s where
  toEvaluates := .refl s
  taken v hv fitted := by
    rcases h with h | h
    · exact absurd rfl (h _ hv)
    · rw [h] at fitted
      cases fitted
  passed _ := rfl
  sets := rfl
  latched _ _ _ := rfl
  dryer _ _ := rfl

/-- At most one pair is the analyzer's, and it is judged as the walk began. -/
theorem analyzerJudged {pairs : List (Channel × Int)} (nodup : (pairs.map Prod.fst).Nodup) (s : State) :
    AnalyzerJudged s pairs (pairs.foldl State.judgeAnalyzer s) := by
  by_cases passed : (∀ p ∈ pairs, p.1 ≠ .analyzer) ∨ s.cal.values.analyzerFitted = false
  · have same : pairs.foldl State.judgeAnalyzer s = s := by
      rcases passed with named | unfitted
      · exact pairs_beside (R := fun s t => t = s) (fun _ => rfl) (fun h h' => h'.trans h) judgeAnalyzer_other named s
      · exact foldl_keeps (P := fun t => t = s) (fun t p h => by rw [h]; exact judgeAnalyzer_unfitted unfitted p) _ rfl
    rw [same]
    exact .of_same passed
  · obtain ⟨named, fitted⟩ := not_or.1 passed
    rw [Bool.not_eq_false] at fitted
    push Not at named
    obtain ⟨⟨c, v⟩, hv, rfl⟩ := named
    obtain ⟨u, rfl, walked⟩ := pairs_at (R := fun s t => t = s) (fun _ => rfl) (fun h h' => h'.trans h)
      judgeAnalyzer_other nodup hv s
    rw [judgeAnalyzer_fitted fitted] at walked
    have stepped : Evaluates u (u.stepExcess (Channel.analyzer.clamp v)) := .update u rfl rfl
    obtain ⟨evaluates, excess, sets, latched, dryer⟩ :=
      highJudged_judgeHigh (u.stepExcess (Channel.analyzer.clamp v)) (Channel.analyzer.clamp v)
    rw [walked]
    refine ⟨stepped.trans evaluates, fun w hw _ => ?_, fun h => absurd h passed, sets, latched, dryer⟩
    have once : w = v := congrArg Prod.snd (List.inj_on_of_nodup_map nodup hw hv rfl)
    rw [excess, once]
    rfl

/-! ## The end of COOLDOWN -/

theorem housingCool_iff {s : State} : s.housingCool = true ↔ ∀ n z, (s.reading (.zone n z)).fresh = true ∧
    ∃ v, (s.reading (.zone n z)).value = some v ∧ v ≤ (s.cal.values.cooldownTemp : Int) := by
  have zones (z : ZoneId) : z ∈ ZoneId.all := by cases z <;> decide
  simp [State.housingCool, LaneId.mem_all, zones, Reading.passes_iff]

/-- What the test of COOLDOWN does where a zone is named (R92). -/
structure CoolTested (zoned : Prop) (s t : State) : Prop where
  sets : t.attention.sets = s.attention.sets
  latched : ∀ c, c ≠ .cooldownDone → t.attention.isLatched c = s.attention.isLatched c
  cooled : s.dryer.state = .cooldown → zoned ∧ s.housingCool = true →
    t.dryer = { s.dryer with state := .off } ∧ t.attention.isLatched .cooldownDone = true
  passed : ¬(zoned ∧ s.housingCool = true) →
    t.dryer = s.dryer ∧ t.attention.isLatched .cooldownDone = s.attention.isLatched .cooldownDone
  keeps : KeepsAllBut [.dryer, .exhaust, .attention] s t

theorem coolTested (s : State) {zone : Bool} {zoned : Prop} (hzone : zone = true ↔ zoned) :
    CoolTested zoned s (if zone = true then s.testCool else s) := by
  obtain rfl := propext hzone
  by_cases h : zone = true ∧ s.dryer.state = .cooldown ∧ s.housingCool = true
  · obtain ⟨hz, hc⟩ := h
    have attention : s.endCooldown.attention = s.attention.latch .cooldownDone := State.latch_latched ..
    rw [if_pos hz, show s.testCool = s.endCooldown from if_pos hc]
    refine ⟨?_, fun c hne => isLatched_latch_other (s.enterDryer .off) hne, fun _ _ => ⟨rfl, ?_⟩,
      fun h => absurd ⟨hz, hc.2⟩ h, keepsAllBut_endCooldown s⟩
    · rw [attention]
      rfl
    · rw [attention, Attention.isLatched_latch, decide_eq_true rfl, Bool.or_true]
  · have same : (if zone = true then s.testCool else s) = s := by
      split
      next hz => exact if_neg fun hc => h ⟨hz, hc⟩
      next => rfl
    rw [same]
    exact ⟨rfl, fun _ _ => rfl, fun hd hc => absurd ⟨hc.1, hd, hc.2⟩ h, fun _ => ⟨rfl, rfl⟩, .refl _ s⟩

/-! ## The stages together -/

/-- The pairs taken and the zones judged by them, before the limit and the analyzer (R101). -/
structure ZonesJudged (s : State) (pairs : List (Channel × Int)) (t : State) : Prop where
  named : ∀ p ∈ pairs, t.reading p.1 = ⟨some (p.1.clamp p.2), true, 0⟩
  unnamed : ∀ c, (∀ p ∈ pairs, p.1 ≠ c) → t.reading c = s.reading c
  cut : ∀ n z v, (Channel.zone n z, v) ∈ pairs → t.cut n z = s.cutJudged n z ((Channel.zone n z).clamp v)
  uncut : ∀ n z, (∀ p ∈ pairs, p.1 ≠ .zone n z) → t.cut n z = s.cut n z
  told : CutsTold s t
  latched : ∀ c, c ≠ .zoneOvertemp → t.attention.isLatched c = s.attention.isLatched c
  key : ∀ n, (t.lane n).key = (s.lane n).key
  keeps : KeepsAllBut (everyLane ++ [.readings, .cuts, .attention]) s t

theorem zonesJudged {pairs : List (Channel × Int)} (nodup : (pairs.map Prod.fst).Nodup) (s : State) :
    ZonesJudged s pairs (pairs.foldl State.judgeBand (pairs.foldl State.judgeCut (pairs.foldl State.takeValue s))) := by
  have taken := keepsAllBut_takeValues s (pairs := pairs)
  have named (p : Channel × Int) (hp : p ∈ pairs) := reading_takeValues_named s nodup hp
  have unnamed (c : Channel) (hc : ∀ p ∈ pairs, p.1 ≠ c) := reading_takeValues_unnamed s hc
  generalize pairs.foldl State.takeValue s = t at *
  obtain ⟨latched, judged⟩ := cutsOnly_judgeCuts t (pairs := pairs)
  have told := cutsTold_judgeCuts t nodup
  have cut (n : LaneId) (z : ZoneId) (v : Int) (h : (Channel.zone n z, v) ∈ pairs) := cut_judgeCuts_named t nodup h
  have uncut (n : LaneId) (z : ZoneId) (h : ∀ p ∈ pairs, p.1 ≠ .zone n z) := cut_judgeCuts_unnamed t h
  generalize pairs.foldl State.judgeCut t = u at *
  obtain ⟨key, banded⟩ := judgeBands_keeps pairs u
  generalize pairs.foldl State.judgeBand u = w at *
  have cuts : w.cuts = u.cuts := banded.1 .cuts (by decide)
  have attention : w.attention = u.attention := banded.1 .attention (by decide)
  have began : t.attention = s.attention := taken.1 .attention (by decide)
  have lane (n : LaneId) : t.lane n = s.lane n := taken.1 (.lane n) (by simp)
  have flag (n : LaneId) (z : ZoneId) : w.cut n z = u.cut n z := by unfold State.cut; rw [cuts]
  have before (n : LaneId) (z : ZoneId) : t.cut n z = s.cut n z := by
    unfold State.cut
    rw [show t.cuts = s.cuts from taken.1 .cuts (by decide)]
  have readings (c : Channel) : w.reading c = t.reading c :=
    reading_congr ((banded.1 .readings (by decide)).trans (judged.1 .readings (by decide))) c
  refine ⟨fun p hp => (readings _).trans (named p hp), fun c hc => (readings c).trans (unnamed c hc),
    fun n z v h => ?_, fun n z h => (flag n z).trans ((uncut n z h).trans (before n z)), ?_, fun c hc => ?_,
    fun n => (key n).trans ?_, (taken.mono (by decide)).trans ((judged.mono (by decide)).trans (banded.mono (by decide)))⟩
  · rw [flag, cut n z v h]
    exact cutJudged_congr (lane n) (taken.1 .profiles (by decide)) (taken.1 .cal (by decide)) (before n z) _
  · exact told.congr (taken.1 .cuts (by decide)).symm began.symm cuts (by rw [attention]) (by rw [attention])
  · rw [attention, latched c hc, began]
  · rw [show u.lane n = t.lane n from judged.1 (.lane n) (by simp), lane]

/-- What an RDG does with its pairs before the lines are formed (R73, R92, R101, R106). -/
structure ReadingsTaken (s : State) (pairs : List (Channel × Int)) (t : State) : Prop where
  named : ∀ p ∈ pairs, t.reading p.1 = ⟨some (p.1.clamp p.2), true, 0⟩
  unnamed : ∀ c, (∀ p ∈ pairs, p.1 ≠ c) → t.reading c = s.reading c
  cut : ∀ n z v, (Channel.zone n z, v) ∈ pairs → t.cut n z = s.cutJudged n z ((Channel.zone n z).clamp v)
  uncut : ∀ n z, (∀ p ∈ pairs, p.1 ≠ .zone n z) → t.cut n z = s.cut n z
  told : CutsTold s t
  cooled : s.dryer.state = .cooldown → (∃ p ∈ pairs, p.1.isZone = true) ∧ t.housingCool = true →
    t.dryer = { s.dryer with state := .off } ∧ t.attention.isLatched .cooldownDone = true
  uncooled : s.dryer.state = .cooldown → ¬((∃ p ∈ pairs, p.1.isZone = true) ∧ t.housingCool = true) →
    t.dryer = s.dryer ∧ t.attention.isLatched .cooldownDone = s.attention.isLatched .cooldownDone
  excess : ∀ v, (Channel.analyzer, v) ∈ pairs → s.cal.values.analyzerFitted = true → t.arbiter.excess =
    if (t.load.activeLimit : Int) < Channel.analyzer.clamp v then min 2 (s.arbiter.excess + 1) else 0
  unstepped : (∀ p ∈ pairs, p.1 ≠ .analyzer) ∨ s.cal.values.analyzerFitted = false →
    t.arbiter.excess = s.arbiter.excess
  key : ∀ n, (t.lane n).key = (s.lane n).key
  keeps : KeepsAllBut (everyLane ++ [.readings, .cuts, .arbiter, .exhaust, .dryer, .attention, .horn, .load]) s t

/-- The blocks that judge a request act one after another on the records that the request has left (R101). -/
theorem readingsTaken {pairs : List (Channel × Int)} (nodup : (pairs.map Prod.fst).Nodup) (s : State) :
    ReadingsTaken s pairs (s.takeReadings pairs) := by
  unfold State.takeReadings
  dsimp only
  have zones := zonesJudged nodup s
  generalize pairs.foldl State.judgeBand (pairs.foldl State.judgeCut (pairs.foldl State.takeValue s)) = u at *
  have limited : KeepsAllBut [.load] u
      (if !(s.reading .analyzer).fresh && (u.reading .analyzer).fresh then u.reformLimit else u) := by
    split
    · exact keepsAllBut_reformLimit u
    · exact .refl _ u
  generalize (if !(s.reading .analyzer).fresh && (u.reading .analyzer).fresh then u.reformLimit else u) = w at *
  have analyzed := analyzerJudged nodup w
  generalize pairs.foldl State.judgeAnalyzer w = x at *
  have cool := coolTested x (List.any_eq_true (p := fun p : Channel × Int => p.1.isZone) (l := pairs))
  generalize (if (pairs.any fun p => p.1.isZone) = true then x.testCool else x) = t at *
  have back : KeepsAllBut (everyLane ++ [.arbiter, .exhaust, .dryer, .attention, .horn, .load]) u t :=
    (limited.mono (by decide)).trans ((analyzed.keeps.mono (by decide)).trans (cool.keeps.mono (by decide)))
  have attention : w.attention = u.attention := limited.1 .attention (by decide)
  have latched (c : Cause) (ha : c ≠ .analyzerHigh) (hs : c ≠ .safeHold) :
      x.attention.isLatched c = u.attention.isLatched c := by rw [analyzed.latched c ha hs, attention]
  have cal : w.cal = s.cal := (limited.1 .cal (by decide)).trans (zones.keeps.1 .cal (by decide))
  have dryer : w.dryer = s.dryer := (limited.1 .dryer (by decide)).trans (zones.keeps.1 .dryer (by decide))
  have arbiter : w.arbiter = s.arbiter := (limited.1 .arbiter (by decide)).trans (zones.keeps.1 .arbiter (by decide))
  have excess : t.arbiter.excess = x.arbiter.excess := congrArg Arbiter.excess (cool.keeps.1 .arbiter (by decide))
  have load : t.load = w.load := (cool.keeps.1 .load (by decide)).trans (analyzed.keeps.1 .load (by decide))
  have readings (c : Channel) : t.reading c = u.reading c := reading_congr (back.1 .readings (by decide)) c
  have cuts : t.cuts = u.cuts := back.1 .cuts (by decide)
  have flag (n : LaneId) (z : ZoneId) : t.cut n z = u.cut n z := by unfold State.cut; rw [cuts]
  have housing : t.housingCool = x.housingCool :=
    housingCool_congr (cool.keeps.1 .readings (by decide)) (cool.keeps.1 .cal (by decide))
  have still (hd : s.dryer.state = .cooldown) : x.dryer = s.dryer := by
    rw [← dryer] at hd ⊢
    exact analyzed.dryer (by rw [hd]; decide) (by rw [hd]; decide)
  have done : x.attention.isLatched .cooldownDone = s.attention.isLatched .cooldownDone :=
    (latched _ (by decide) (by decide)).trans (zones.latched _ (by decide))
  refine
    { named := fun p hp => (readings _).trans (zones.named p hp)
      unnamed := fun c hc => (readings c).trans (zones.unnamed c hc)
      cut := fun n z v h => (flag n z).trans (zones.cut n z v h)
      uncut := fun n z h => (flag n z).trans (zones.uncut n z h)
      told := zones.told.congr rfl rfl cuts ?_ ?_
      cooled := fun hd hc => ?_
      uncooled := fun hd hc => ?_
      excess := fun v hv fitted => ?_
      unstepped := fun h => ?_
      key := fun n => ?_
      keeps := (zones.keeps.mono (by decide)).trans (back.mono (by decide)) }
  · rw [cool.sets, analyzed.sets, attention]
  · rw [cool.latched _ (by decide), latched _ (by decide) (by decide)]
  · rw [housing] at hc
    have dryer := still hd
    rw [← dryer] at hd ⊢
    exact cool.cooled hd hc
  · rw [housing] at hc
    rw [← still hd, ← done]
    exact cool.passed hc
  · rw [excess, load, ← arbiter]
    exact analyzed.taken v hv (by rw [cal]; exact fitted)
  · rw [excess, ← arbiter]
    exact analyzed.passed (by rw [cal]; exact h)
  · rw [show t.lane n = x.lane n from cool.keeps.1 (.lane n) (by simp), (analyzed.lane n).key,
      show w.lane n = u.lane n from limited.1 (.lane n) (by simp), zones.key]

/-! ## The request -/

section
variable {s : State} {count : Byte} {rest : List Byte}

theorem takeRdg_count (h : count.toNat = 0 ∨ 22 < count.toNat) : takeRdg (count :: rest) s = (s, .badField 0) := by
  have out : within 1 22 count.toNat = false := by simp [within]; omega
  simp [takeRdg, out]

variable (h1 : 1 ≤ count.toNat) (h22 : count.toNat ≤ 22)
include h1 h22

theorem takeRdg_length (hl : rest.length ≠ 3 * count.toNat) : takeRdg (count :: rest) s = (s, .badLength) := by
  simp [takeRdg, within, h1, h22, hl]

variable (hl : rest.length = 3 * count.toNat)
include hl

theorem takeRdg_channel {k : Nat} (hk : checkPairs 1 [] (readPairs count.toNat rest) = .error k) :
    takeRdg (count :: rest) s = (s, .badField k) := by
  simp [takeRdg, within, h1, h22, hl, hk]

theorem takeRdg_taken {pairs : List (Channel × Int)}
    (hp : checkPairs 1 [] (readPairs count.toNat rest) = .ok pairs) :
    takeRdg (count :: rest) s = ((s.takeReadings pairs).reform, .done [count, byteOf (countClamped pairs)]) := by
  simp [takeRdg, within, h1, h22, hl, hp]

end

theorem countClamped_eq (pairs : List (Channel × Int)) :
    countClamped pairs = (pairs.filter fun p => p.1.clamp p.2 ≠ p.2).length := by
  simp [countClamped, bne, beq_eq_decide]

/-- Settles O39: the pairs name different channels, so that each stage meets each of them as the request found it; the
refusals come first and take nothing. -/
theorem rdgTakes : Obligations.RdgTakes := by
  intro s count rest h hb
  have short : (count :: rest).length ≤ 96 := by rw [List.length_cons]; omega
  refine ⟨fun pairs hp h1 h22 hl => ?_, fun hc => ?_, fun h1 h22 hl => ?_, fun k hk h1 h22 hl => ?_⟩
  · have next := h.exec_request (c := .rdg (count :: rest)) rfl rfl short
      (takeRdg_taken (s := s.taking) h1 h22 hl hp)
    have taken := readingsTaken (nodup_of_checkPairs hp).1 s.taking
    rw [countClamped_eq] at next
    generalize s.taking.takeReadings pairs = t at *
    have cool := housingCool_iff (s := t)
    rw [show t.cal = s.cal from taken.keeps.1 .cal (by decide)] at cool
    refine ⟨_, next, prepareAnswer_port (t := t.reform) (taken.keeps.1 .port (by decide)) .., taken.named, taken.unnamed,
      taken.cut, taken.uncut, taken.told.laneSet, taken.told.latched, fun hd => ⟨fun hc => ?_, fun hc => ?_⟩,
      taken.excess, taken.unstepped, taken.key, ?_⟩
    · obtain ⟨dryer, done⟩ := taken.cooled hd (hc.imp_right cool.2)
      have demand : t.formDemand = 0 := by rw [State.formDemand, dryer]
      refine ⟨dryer, done, demand, ?_⟩
      show t.formDemand * 1023 / t.cal.values.qMax = 0
      rw [demand]
      simp
    · exact taken.uncooled hd fun e => hc (e.imp_right cool.1)
    · exact keepsAllBut_answered (taken.keeps.mono (by decide)) (by decide) (by decide) (by decide) ..
  · exact h.exec_onlyAnswered rfl rfl short (takeRdg_count (s := s.taking) hc)
  · exact h.exec_onlyAnswered rfl rfl short (takeRdg_length (s := s.taking) h1 h22 hl)
  · exact h.exec_onlyAnswered rfl rfl short (takeRdg_channel (s := s.taking) h1 h22 hl hk)

end Sys2Proof.Machine
end
